-- ==== Sys2Proof/Word.lean ====
section
/-! DEFINITION. The word types of the DCCNET link block (00_scope.md rules R11 and R12): all quantities are
unsigned, a byte is 8 bits, wire fields are 16 or 32 bits wide, a sequence bit is 1 bit wide. -/

namespace Sys2Proof

/-- A byte, value 0..255 (R11). -/
abbrev Byte := BitVec 8

/-- A byte sequence; the first element is the first byte on the wire (R11). -/
abbrev Bytes := List Byte

/-- `u16`, an integer 0..65535 (R12). -/
abbrev U16 := BitVec 16

/-- A 32-bit value such as `SYNC` (R5). -/
abbrev U32 := BitVec 32

/-- A sequence bit of the alternating-bit protocol (R15, R22). -/
abbrev SeqBit := BitVec 1

end Sys2Proof
end

