-- ==== Sys2Proof/Machine/Checksum.lean ====
section
/-! DEFINITION. The Internet checksum (40_checksum.md rules R111 and R114). -/

namespace Sys2Proof.Machine

/-- The sum `S` of a byte sequence's big-endian 16-bit words, a trailing odd byte padded with a zero low byte
(R111); a natural number, which 32 bits hold for every operand of the rule (R112). -/
def wordSum : Bytes → Nat
  | [] => 0
  | [hi] => 256 * hi.toNat
  | hi :: lo :: rest => (256 * hi.toNat + lo.toNat) + wordSum rest

/-- One end-around fold of the carry beyond 16 bits (R111). -/
def foldCarry (n : Nat) : Nat := n % 65536 + n / 65536

/-- `CSUM16` (R111): sum, fold twice, one's complement. -/
def csum16 (b : Bytes) : U16 := BitVec.ofNat 16 (65535 - foldCarry (foldCarry (wordSum b)))

/-- `FRAME_CSUM` (R114): `CSUM16` with the checksum field taken as two zero bytes. -/
def frameCsum (b : Bytes) : U16 := csum16 (b.take 8 ++ [0, 0] ++ b.drop 10)

end Sys2Proof.Machine
end

