-- ==== Sys2Proof/Config.lean ====
section
/-! DEFINITION. The configuration record `CFG` and the constants the source fixes (00_scope.md rule R5,
10_state.md rule R36). -/

namespace Sys2Proof

/-- `HDR_LEN` (R5): the header is 15 bytes. -/
def hdrLen : Nat := 15

/-- `FLAG_ACK` (R5, R86). -/
def flagAck : Byte := 0x80

/-- `FLAG_END` (R5, R86). -/
def flagEnd : Byte := 0x40

/-- `FLAG_RST` (R5, R86). -/
def flagRst : Byte := 0x20

/-- `ID_RST`, the control sentinel id (R5, R85). -/
def idRst : U16 := 0xFFFF

/-- The control registers C0..C4 (R36). The two proof fields make a configuration that no rule gives a
meaning to untypeable: a retransmit interval of no ticks (R5), and an `RST_MSG` whose length does not fit the
length field of the frame that carries it (R131). The whole legality test of R36 is `Cfg.legal`. -/
structure Cfg where
  /-- C0 `CFG.SYNC`, an OPEN parameter. -/
  sync : U32
  /-- C1 `CFG.RTO_TICKS`. -/
  rtoTicks : Nat
  /-- C2 `CFG.RETRY_LIMIT`. -/
  retryLimit : Nat
  /-- C3 `CFG.MAX_PAYLOAD`, an OPEN parameter, 16 bits wide. -/
  maxPayload : U16
  /-- C4 `CFG.RST_MSG`. -/
  rstMsg : Bytes
  /-- R5: `RTO_TICKS ≥ 1`. -/
  rtoTicks_pos : 1 ≤ rtoTicks
  /-- R5, R131: the length of `RST_MSG` fits the 16-bit length field. -/
  rstMsg_le : rstMsg.length ≤ 65535
deriving DecidableEq, Repr

/-- The legal values of R36 and U20: besides what the type holds, `RST_MSG` is no longer than `MAX_PAYLOAD`. -/
def Cfg.legal (c : Cfg) : Bool := c.rstMsg.length ≤ c.maxPayload.toNat

/-- Configuration at construction (R5): a record that is not legal is refused (U20). -/
def Cfg.configure? (sync : U32) (rtoTicks retryLimit : Nat) (maxPayload : U16) (rstMsg : Bytes) : Option Cfg :=
  if h : 1 ≤ rtoTicks ∧ rstMsg.length ≤ 65535 then
    let c : Cfg :=
      { sync := sync, rtoTicks := rtoTicks, retryLimit := retryLimit, maxPayload := maxPayload, rstMsg := rstMsg,
        rtoTicks_pos := h.1, rstMsg_le := h.2 }
    if c.legal then some c else none
  else none

/-- The default `RST_MSG` (R5, D6): the 20 ASCII bytes `RetryBudgetExhausted`. -/
def defaultRstMsg : Bytes :=
  [0x52, 0x65, 0x74, 0x72, 0x79, 0x42, 0x75, 0x64, 0x67, 0x65, 0x74, 0x45, 0x78, 0x68, 0x61, 0x75, 0x73, 0x74,
   0x65, 0x64]

/-- The configuration at reset: the defaults of R5 (`RTO_TICKS` 1, `RETRY_LIMIT` 16, `RST_MSG`), and for the two
OPEN parameters the values the spec's test vectors use. DESIGN CHOICE, unsafe (log entry 4): `SYNC` 0xDCC023C2 and
`MAX_PAYLOAD` 65535 are set by the integrator (R36), not by the spec. -/
def defaultCfg : Cfg :=
  { sync := 0xDCC023C2, rtoTicks := 1, retryLimit := 16, maxPayload := 65535, rstMsg := defaultRstMsg,
    rtoTicks_pos := by decide, rstMsg_le := by decide }

end Sys2Proof
end

