-- ==== Sys2Proof/Syntax.lean ====
section
/-! DEFINITION. The instructions of the block (00_scope.md rule R10): the eight wire frame types of
30_encoding.md rule R86 and the four port events of rule R95, one constructor for each row of the opcode table.
The internal primitives have no encoding and are operations of the machine, not constructors. -/

namespace Sys2Proof

/-- The header of a frame less its three type bits (R81). Every field is kept as received: whether the frame is a
good one is for the decoder to say (R122). -/
structure Header where
  /-- `b[0..4)`, the first copy of the sync marker. -/
  sync1 : U32
  /-- `b[4..8)`, the second copy of the sync marker. -/
  sync2 : U32
  /-- `b[8..10)`. -/
  checksum : U16
  /-- `b[10..12)`. -/
  length : U16
  /-- `b[12..14)`. -/
  id : U16
  /-- Bits 4..0 of `b[14]`, reserved (R90). -/
  reserved : BitVec 5
deriving DecidableEq, Repr

/-- The frame types that bits 7..5 (`A E R`) of the flags byte select (R86). -/
inductive FrameType where
  | data | dataEnd | ack | rst | rstEnd | rstAck | illegalAckEnd | illegalAckEndRst
deriving DecidableEq, Repr

/-- One instruction: a frame type with its header fields and the bytes that follow the header, or a port event
with its operands. -/
inductive Instr where
  /-- DATA: plain data frame, `A E R` = 000. -/
  | data (h : Header) (payload : Bytes)
  /-- DATA_END: final data frame, 010. -/
  | dataEnd (h : Header) (payload : Bytes)
  /-- ACK: acknowledgment, 100. -/
  | ack (h : Header) (payload : Bytes)
  /-- RST: abort signal, 001. -/
  | rst (h : Header) (payload : Bytes)
  /-- RST_END: `RST` with `END` also set, 011. -/
  | rstEnd (h : Header) (payload : Bytes)
  /-- RST_ACK: `RST` with `ACK` also set, 101. -/
  | rstAck (h : Header) (payload : Bytes)
  /-- ILLEGAL_ACK_END: 110. -/
  | illegalAckEnd (h : Header) (payload : Bytes)
  /-- ILLEGAL_ACK_END_RST: 111. -/
  | illegalAckEndRst (h : Header) (payload : Bytes)
  /-- RESET: `ev_kind` = 0. -/
  | reset
  /-- SEND: `ev_kind` = 1. -/
  | send (payload : Bytes) (isLast : Bool)
  /-- RX_READ: `ev_kind` = 2. -/
  | rxRead (chunk : Bytes)
  /-- TICK: `ev_kind` = 3. -/
  | tick
deriving DecidableEq, Repr

/-- The frame instruction of a type. -/
def Instr.ofFrame : FrameType → Header → Bytes → Instr
  | .data, h, p => .data h p
  | .dataEnd, h, p => .dataEnd h p
  | .ack, h, p => .ack h p
  | .rst, h, p => .rst h p
  | .rstEnd, h, p => .rstEnd h p
  | .rstAck, h, p => .rstAck h p
  | .illegalAckEnd, h, p => .illegalAckEnd h p
  | .illegalAckEndRst, h, p => .illegalAckEndRst h p

/-- The bits of one instruction as they are presented to the block: the bytes of a received frame on the frame
lane (the candidate that DECODE is given), or an event code with its operand lines on the event port (R95). An
event without operands ignores the operand lines. DESIGN CHOICE (log entries 6 and 14). -/
inductive PortItem where
  | frame (bytes : Bytes)
  | event (evKind : BitVec 2) (bytes : Bytes) (isLast : Bool)
deriving DecidableEq, Repr

/-- Why bits are no instruction: a received frame too short to hold a header (R123). All event codes are assigned
(R95) and every header selects a type (R86, R94), so there is no other reason. -/
inductive DecodeReject where
  | frameTooShort
deriving DecidableEq, Repr

end Sys2Proof
end

