-- ==== Sys2Proof/Decode.lean ====
section
/-! DEFINITION. Reading an instruction from its bits and writing its bits (30_encoding.md rules R81, R86 and R95),
with the big-endian field helpers of 00_scope.md rule R11. -/

namespace Sys2Proof

/-- `b[i]` (R11); 0 past the end, which no rule reads. -/
def byteAt (b : Bytes) (i : Nat) : Byte := b.getD i 0

/-- `be16(b, i)` (R11). -/
def be16At (b : Bytes) (i : Nat) : U16 := byteAt b i ++ byteAt b (i + 1)

/-- `be32(b, i)` (R11). -/
def be32At (b : Bytes) (i : Nat) : U32 := be16At b i ++ be16At b (i + 2)

/-- `be16(v)`, the two big-endian bytes of `v` (R11). -/
def be16 (v : U16) : Bytes := [v.extractLsb' 8 8, v.extractLsb' 0 8]

/-- `be32(v)`, the four big-endian bytes of `v` (R11). -/
def be32 (v : U32) : Bytes := be16 (v.extractLsb' 16 16) ++ be16 (v.extractLsb' 0 16)

/-- The type bits `A E R` of a frame type, bit 2 being `A` (R86). -/
def FrameType.bits : FrameType → BitVec 3
  | .data => 0b000
  | .dataEnd => 0b010
  | .ack => 0b100
  | .rst => 0b001
  | .rstEnd => 0b011
  | .rstAck => 0b101
  | .illegalAckEnd => 0b110
  | .illegalAckEndRst => 0b111

/-- The frame type that the bits `A E R` select (R86). -/
def FrameType.ofBits (aer : BitVec 3) : FrameType :=
  match aer.getLsbD 2, aer.getLsbD 1, aer.getLsbD 0 with
  | false, false, false => .data
  | false, true, false => .dataEnd
  | true, false, false => .ack
  | false, false, true => .rst
  | false, true, true => .rstEnd
  | true, false, true => .rstAck
  | true, true, false => .illegalAckEnd
  | true, true, true => .illegalAckEndRst

/-- The flags byte: bits 7..5 the type, bits 4..0 reserved (R81, R90). -/
def flagsByte (t : FrameType) (reserved : BitVec 5) : Byte := t.bits ++ reserved

/-- The 15 bytes of a header (R81). -/
def headerBytes (t : FrameType) (h : Header) : Bytes :=
  be32 h.sync1 ++ be32 h.sync2 ++ be16 h.checksum ++ be16 h.length ++ be16 h.id ++ [flagsByte t h.reserved]

/-- The bytes of a frame: its header, then its payload (R80). -/
def frameBytes (t : FrameType) (h : Header) (payload : Bytes) : Bytes := headerBytes t h ++ payload

/-- The header fields of a frame's bytes (R81). -/
def headerOf (b : Bytes) : Header :=
  { sync1 := be32At b 0, sync2 := be32At b 4, checksum := be16At b 8, length := be16At b 10, id := be16At b 12,
    reserved := (byteAt b 14).extractLsb' 0 5 }

/-- The frame type of a frame's bytes (R86). -/
def frameTypeOf (b : Bytes) : FrameType := FrameType.ofBits ((byteAt b 14).extractLsb' 5 3)

/-- The instruction that the bits of a port item are. -/
def decode : PortItem → Except DecodeReject Instr
  | .frame b => if b.length < 15 then .error .frameTooShort else .ok (.ofFrame (frameTypeOf b) (headerOf b) (b.drop 15))
  | .event k b l =>
    if k = 0 then .ok .reset
    else if k = 1 then .ok (.send b l)
    else if k = 2 then .ok (.rxRead b)
    else .ok .tick

/-- The bits of an instruction. Operand lines that an event does not use are written as zero. -/
def encode : Instr → PortItem
  | .data h p => .frame (frameBytes .data h p)
  | .dataEnd h p => .frame (frameBytes .dataEnd h p)
  | .ack h p => .frame (frameBytes .ack h p)
  | .rst h p => .frame (frameBytes .rst h p)
  | .rstEnd h p => .frame (frameBytes .rstEnd h p)
  | .rstAck h p => .frame (frameBytes .rstAck h p)
  | .illegalAckEnd h p => .frame (frameBytes .illegalAckEnd h p)
  | .illegalAckEndRst h p => .frame (frameBytes .illegalAckEndRst h p)
  | .reset => .event 0 [] false
  | .send p l => .event 1 p l
  | .rxRead c => .event 2 c false
  | .tick => .event 3 [] false

/-- Byte `k` of the 120-bit header number `w`, which is `H[119-8k : 112-8k]` (R11). -/
def headerNumberByte (w k : Nat) : Byte := BitVec.ofNat 8 (w / 2 ^ (112 - 8 * k))

/-- The 15 header bytes of the 120-bit number `w` (R11, R81). -/
def headerNumberBytes (w : Nat) : Bytes := (List.range 15).map (headerNumberByte w)

/-- The port item of an opcode-table word. The table numbers a frame's header as one 120-bit word `H` whose bit 0
is bit 0 of byte 14, so a word wider than a byte is a header, followed by as many zero payload bytes as its length
field says; a word of at most a byte is an event code with operand lines at zero (log entry 7). -/
def portItemOfTableWord (nbits w : Nat) : PortItem :=
  if nbits ≤ 8 then .event (BitVec.ofNat 2 w) [] false
  else .frame (headerNumberBytes w ++ List.replicate (w / 2 ^ 24 % 2 ^ 16) 0)

/-- What the decoder reads from an opcode-table word. -/
def decodeTableWord (nbits w : Nat) : Option Instr :=
  match decode (portItemOfTableWord nbits w) with
  | .ok i => some i
  | .error _ => none

end Sys2Proof
end

