-- ==== Sys2Proof/Machine/Operands.lean ====
section
/-! DEFINITION. The operand forms of a received frame: the decoded record `Frame` (00_scope.md rule R14), the tagged
id (30_encoding.md rule R85), and the sequence-bit arithmetic (10_state.md rule R22). -/

namespace Sys2Proof.Machine

/-- The record type `Frame` (R14): the decoded view of one wire frame. -/
structure Frame where
  checksum : U16
  length : U16
  id : U16
  /-- The whole flags byte as received, reserved bits included (R90). -/
  flags : Byte
  payload : Bytes
deriving DecidableEq, Repr

/-- The tagged value an id is inside the engine (R85). -/
inductive IdTag where
  | bit (b : SeqBit)
  | sentinel
  | illegal
deriving DecidableEq, Repr

/-- The mapping from the wire field to the tag (R85). -/
def idTag (id : U16) : IdTag :=
  if id = 0 then .bit 0 else if id = 1 then .bit 1 else if id = idRst then .sentinel else .illegal

/-- A sequence bit as the wire's 16-bit id, zero-extended (R163). -/
def idOfBit (b : SeqBit) : U16 := b.setWidth 16

/-- `1 - x` on a sequence bit: the alternation of R198 and R201. -/
def flipBit (b : SeqBit) : SeqBit := 1 - b

/-- Step 0's test (R195): the id has no tag, or it is the sentinel on a frame without `RST`. -/
def idRefused (id : U16) (isRst : Bool) : Bool :=
  match idTag id with
  | .bit _ => false
  | .sentinel => !isRst
  | .illegal => true

end Sys2Proof.Machine
end

