-- ==== Sys2Proof/Machine/Counter.lean ====
section
/-! DEFINITION. The two counters of the block (10_state.md rules R26 and R27): unsigned, of the least width that holds
their range. -/

namespace Sys2Proof.Machine

/-- The width of a counter of range `0..limit`: `max(1, ceil(log2(limit + 1)))` bits (R26, R27). -/
def counterWidth (limit : Nat) : Nat := max 1 (Nat.clog 2 (limit + 1))

/-- An unsigned counter of range `0..limit`. -/
abbrev Counter (limit : Nat) := BitVec (counterWidth limit)

/-- The counter at the top of its range. -/
def fullCount (limit : Nat) : Counter limit := BitVec.ofNat (counterWidth limit) limit

end Sys2Proof.Machine
end

