-- ==== Sys2Proof/Machine/State.lean ====
section
/-! DEFINITION. The state of one block (10_state.md rules R20 to R30 and R36), its output actions and its reset
value (R40, R260). -/

namespace Sys2Proof.Machine

/-- `conn`, the life-cycle state of the connection (R21); `opened` is the spec's `Open`. -/
inductive Conn where
  | opened | closed | aborted
deriving DecidableEq, Repr

/-- The error and log codes of 60_exceptions.md rule R222; `none` is code 0, no error. `connectFailure` is reserved
for the transport and never produced by the block (R235). -/
inductive Code where
  | none | frameTooShort | invalidSync | lengthMismatch | invalidFlags | checksumMismatch | noSyncFound
  | retryBudgetExhausted | rstReceived | illegalId | staleAck | duplicate | connectFailure
deriving DecidableEq, Repr

/-- The output actions (R9). -/
inductive Action where
  /-- One whole encoded frame handed to the transport (R53). -/
  | tx (bytes : Bytes)
  /-- One payload handed to the application adapter. -/
  | deliver (payload : Bytes)
  /-- The `ok` result of `sendPayload`. -/
  | sendOk
  /-- The `Aborted` result of `sendPayload` on an aborted connection. -/
  | sendAborted
  /-- The terminal error surfaced to the adapter, with the transport close. -/
  | aborted (cause : Code) (msg : Bytes)
  /-- Graceful completion, with the transport close. -/
  | closed
  /-- A silent, logged-only notice. -/
  | log (code : Code)
deriving DecidableEq, Repr

/-- The duplicate detector's record while `lastValid = 1` (R24). -/
structure Delivered where
  /-- `lastDeliveredId`. -/
  id : SeqBit
  /-- `lastDeliveredChecksum`. -/
  checksum : U16
deriving DecidableEq, Repr

/-- The whole state: the fourteen fields of R20, the control registers of R36 (`cfg`), and two fields that are the
model's own: the events presented and not yet taken (log entry 1), and the actions emitted so far (log entry 3).
A valid bit and the value it guards are one option, as R41 says is exact (log entry 8). -/
structure State where
  /-- C0..C4 (R36): static inputs, which no rule writes. -/
  cfg : Cfg
  /-- `conn` (R21). -/
  conn : Conn
  /-- `outboundId` (R22). -/
  outboundId : SeqBit
  /-- `inboundId` (R23). -/
  inboundId : SeqBit
  /-- `lastValid`, `lastDeliveredId`, `lastDeliveredChecksum` (R24). -/
  lastDelivered : Option Delivered
  /-- `pendingValid`, `pendingFrame` (R25). -/
  pending : Option Bytes
  /-- `retryCount` (R26), of range 0..`RETRY_LIMIT`. -/
  retryCount : Counter cfg.retryLimit
  /-- `rtxTimer` (R27), of range 0..`RTO_TICKS`. -/
  rtxTimer : Counter cfg.rtoTicks
  /-- `sendDone` (R28). -/
  sendDone : Bool
  /-- `recvDone` (R28). -/
  recvDone : Bool
  /-- `carry` (R29). -/
  carry : Bytes
  /-- `abortCause` (R30). -/
  abortCause : Code
  /-- The model's own: what the agents have presented and the block has not taken, oldest first (R8, R60). -/
  inbox : List PortItem
  /-- The model's own: the output actions emitted, oldest first (R9, R62). -/
  out : List Action
deriving DecidableEq, Repr

/-- The reasons the machine could stop with a fault: none. No rule of the spec stops the block; its fatal errors
end the connection in the state `Aborted`, which is a next state (R230, log entry 13). Nobody raises a fault, which is
safe. -/
inductive Fault : Type
deriving DecidableEq, Repr

/-- The reasons an instruction could be without a meaning. -/
inductive Refusal where
  /-- The instruction has no meaning in this model. Raised by nobody: every arm of the dispatch has its meaning.
  Safe. -/
  | notModelled (mnemonic : String)
deriving DecidableEq, Repr

/-- The block right after reset: every field as R40 and R260 state it, the configuration at the defaults of R5 and
the log's values for the two OPEN parameters (log entry 4), nothing presented and nothing emitted. -/
def State.reset : State :=
  { cfg := defaultCfg, conn := .opened, outboundId := 0, inboundId := 0, lastDelivered := none, pending := none,
    retryCount := 0, rtxTimer := 0, sendDone := false, recvDone := false, carry := [], abortCause := .none,
    inbox := [], out := [] }

end Sys2Proof.Machine
end

