-- ==== Sys2Proof/Machine/Flags.lean ====
section
/-! DEFINITION. Flags and status: the flag bits of a frame (30_encoding.md rule R86), the numeric codes a host sees
(10_state.md rule R21, 60_exceptions.md rule R222), the status registers (10_state.md rules R33 and R36) and the
source's state names as views of the state (R31). -/

namespace Sys2Proof.Machine

/-- The `ACK` bit of a flags byte is set (R86). -/
def ackSet (flags : Byte) : Bool := flags &&& flagAck ≠ 0

/-- The `END` bit of a flags byte is set (R86). -/
def endSet (flags : Byte) : Bool := flags &&& flagEnd ≠ 0

/-- The `RST` bit of a flags byte is set (R86). -/
def rstSet (flags : Byte) : Bool := flags &&& flagRst ≠ 0

/-- The 2-bit encoding of `conn` (R21); the value 3 is never produced. -/
def Conn.code : Conn → BitVec 2
  | .opened => 0
  | .closed => 1
  | .aborted => 2

/-- The 4-bit number of an error or log code (R222). -/
def Code.number : Code → BitVec 4
  | .none => 0
  | .frameTooShort => 1
  | .invalidSync => 2
  | .lengthMismatch => 3
  | .invalidFlags => 4
  | .checksumMismatch => 5
  | .noSyncFound => 6
  | .retryBudgetExhausted => 7
  | .rstReceived => 8
  | .illegalId => 9
  | .staleAck => 10
  | .duplicate => 11
  | .connectFailure => 12

/-- `lastValid` (R24). -/
def State.lastValid (s : State) : Bool := s.lastDelivered.isSome

/-- `pendingValid` (R25). -/
def State.pendingValid (s : State) : Bool := s.pending.isSome

/-- `send_ready` (R33): a `SEND` would be accepted. -/
def State.sendReady (s : State) : Bool := s.conn = .opened && !s.pendingValid && !s.sendDone

/-- The status registers S0..S7 (R36), read-only views of the state; S6 has the width of R26. -/
structure Status (retryLimit : Nat) where
  conn : BitVec 2
  sendReady : Bool
  sendDone : Bool
  recvDone : Bool
  outboundId : SeqBit
  inboundId : SeqBit
  retryCount : Counter retryLimit
  abortCause : BitVec 4
deriving DecidableEq, Repr

/-- What the host reads at S0..S7 (R36). -/
def State.status (s : State) : Status s.cfg.retryLimit :=
  { conn := s.conn.code, sendReady := s.sendReady, sendDone := s.sendDone, recvDone := s.recvDone,
    outboundId := s.outboundId, inboundId := s.inboundId, retryCount := s.retryCount,
    abortCause := s.abortCause.number }

/-- The Sender's resting states (R31); `closed` is this spec's own name for a gracefully closed connection. -/
inductive Sender where
  | idle
  | sending (frameId : U16) (payload : Bytes) (flags : Byte)
  | aborted
  | closed
deriving DecidableEq, Repr

/-- The Sender machine as a view of the state (R31). -/
def State.sender (s : State) : Sender :=
  match s.conn with
  | .aborted => .aborted
  | .closed => .closed
  | .opened =>
    match s.pending with
    | none => .idle
    | some f => .sending (be16At f 12) (f.drop 15) (byteAt f 14)

/-- The Receiver's resting states (R31). -/
inductive Receiver where
  | listening | aborted | closed
deriving DecidableEq, Repr

/-- The Receiver machine as a view of the state (R31). -/
def State.receiver (s : State) : Receiver :=
  match s.conn with
  | .aborted => .aborted
  | .closed => .closed
  | .opened => .listening

end Sys2Proof.Machine
end

