-- ==== Sys2Proof/Machine/Codec.lean ====
section
/-! DEFINITION. The frame codec (41_codec.md rules R121 to R127). -/

namespace Sys2Proof.Machine

/-- `MARK` (R5): the sync marker twice. -/
def mark (sync : U32) : Bytes := be32 sync ++ be32 sync

/-- `ENCODE` (R121). The preconditions of R131 hold at every call of the machine. -/
def encodeFrame (sync : U32) (payload : Bytes) (id : U16) (flags : Byte) : Bytes :=
  let length := be16 (BitVec.ofNat 16 payload.length)
  let zeroed := mark sync ++ [0, 0] ++ length ++ be16 id ++ [flags]
  mark sync ++ be16 (csum16 (zeroed ++ payload)) ++ length ++ be16 id ++ [flags] ++ payload

/-- The five errors of `DECODE` (R122). -/
inductive DecodeError where
  | frameTooShort | invalidSync | lengthMismatch | invalidFlags | checksumMismatch
deriving DecidableEq, Repr

/-- The log code of a decode error (R222). -/
def DecodeError.code : DecodeError → Code
  | .frameTooShort => .frameTooShort
  | .invalidSync => .invalidSync
  | .lengthMismatch => .lengthMismatch
  | .invalidFlags => .invalidFlags
  | .checksumMismatch => .checksumMismatch

/-- Check (d) (R126): `ACK` with `END`, or `ACK` with a non-zero length. -/
def flagsIllegal (flags : Byte) (length : U16) : Bool :=
  (ackSet flags && endSet flags) || (ackSet flags && length ≠ 0)

/-- `DECODE` (R122): the checks (a) to (e) in order, the first that fails giving the error. -/
def decodeFrame (sync : U32) (b : Bytes) : Except DecodeError Frame :=
  if b.length < hdrLen then .error .frameTooShort
  else if b.take 8 ≠ mark sync then .error .invalidSync
  else if (be16At b 10).toNat ≠ b.length - hdrLen then .error .lengthMismatch
  else if flagsIllegal (byteAt b 14) (be16At b 10) then .error .invalidFlags
  else if frameCsum b ≠ be16At b 8 then .error .checksumMismatch
  else .ok { checksum := be16At b 8, length := be16At b 10, id := be16At b 12, flags := byteAt b 14,
             payload := b.drop hdrLen }

/-- `MAKE_ACK(i)` (R174): the acknowledgment of a frame with that id. -/
def makeAck (sync : U32) (id : U16) : Bytes := encodeFrame sync [] id flagAck

/-- `MAKE_RST()` (R173): the reset frame, with the sentinel id and the message. -/
def makeRst (cfg : Cfg) : Bytes := encodeFrame cfg.sync cfg.rstMsg idRst flagRst

/-- The data frame of an accepted `SEND` (R161, R163): flags 0x40 for the last payload and 0x00 otherwise, the
id the sequence bit zero-extended. -/
def makeData (sync : U32) (payload : Bytes) (isLast : Bool) (outboundId : SeqBit) : Bytes :=
  encodeFrame sync payload (idOfBit outboundId) (if isLast then flagEnd else 0)

end Sys2Proof.Machine
end

