-- ==== Sys2Proof/Machine/Resync.lean ====
section
/-! DEFINITION. The resynchronizer (42_resync.md rules R141 and R143). -/

namespace Sys2Proof.Machine

/-- `SCAN` (R141): the smallest offset at which the eight bytes `m` of the marker pair stand whole. -/
def scan (m : Bytes) : Bytes → Option Nat
  | [] => none
  | b :: bs => if (b :: bs).take 8 = m then some 0 else (scan m bs).map (· + 1)

/-- The last `min(7, len)` bytes, which are kept when no marker pair was found (R143, R144). -/
def lastSeven (b : Bytes) : Bytes := b.drop (b.length - 7)

end Sys2Proof.Machine
end

