-- ==== Sys2Proof/Machine/Ops.lean ====
section
/-! DEFINITION. The shared operations of the machine: emitting actions, the abort sequences (60_exceptions.md rules
R230 to R233), reset (10_state.md rule R40), and the receive classification (44_arq_receive.md). -/

namespace Sys2Proof.Machine

/-- `emit A` (R13): append an action to the output list. -/
def State.emit (s : State) (a : Action) : State := { s with out := s.out ++ [a] }

/-- `carry <- []` (R143). -/
def State.clearCarry (s : State) : State := { s with carry := [] }

/-- What the two abort sequences share, the block's analogue of taking an exception (R230): nothing is saved, the
connection is aborted with its cause, the pending frame is dropped, the timer stops, and the terminal error is
surfaced last. There is no return (R234): only `resetConnection` leaves the state. -/
def abort (cause : Code) (msg : Bytes) (s : State) : State :=
  State.emit { s with conn := .aborted, abortCause := cause, pending := none, rtxTimer := 0 } (.aborted cause msg)

/-- `ABORT_RETRY()` (R232): the reset frame goes out first, then the abort. -/
def abortRetry (s : State) : State := abort .retryBudgetExhausted s.cfg.rstMsg (s.emit (.tx (makeRst s.cfg)))

/-- `ABORT_RST(msg)` (R233): no frame is sent in reply. -/
def abortRst (msg : Bytes) (s : State) : State := abort .rstReceived msg s

/-- `RESET` (R40): a new connection with none of the old state. It writes the fourteen fields of R20; the
configuration is an input, and what has been presented or emitted belongs to the environment (log entry 18). -/
def resetConnection (s : State) : State :=
  { s with
    conn := .opened, outboundId := 0, inboundId := 0, lastDelivered := none, pending := none, retryCount := 0,
    rtxTimer := 0, sendDone := false, recvDone := false, carry := [], abortCause := .none }

/-- `CLOSURE_CHECK()` (R206). -/
def closureCheck (s : State) : State :=
  if s.sendDone && s.recvDone then State.emit { s with conn := .closed } .closed else s

/-- `ACK_MATCH()` (R198) for the pending frame `f`. -/
def ackMatch (f : Bytes) (s : State) : State :=
  closureCheck (State.emit
    { s with
      outboundId := flipBit s.outboundId, retryCount := 0, pending := none, rtxTimer := 0,
      sendDone := s.sendDone || endSet (byteAt f 14) } .sendOk)

/-- Case (b) (R197, R198): an acknowledgment of the pending frame, or a stale one. -/
def ackCase (f : Frame) (s : State) : State :=
  match s.pending with
  | some g => if f.id = idOfBit s.outboundId then ackMatch g s else s.emit (.log .staleAck)
  | none => s.emit (.log .staleAck)

/-- The duplicate test of case (c) (R199): the payload is not compared. -/
def isDuplicate (f : Frame) (s : State) : Bool :=
  match s.lastDelivered with
  | some d => f.id = idOfBit d.id && f.checksum = d.checksum
  | none => false

/-- The duplicate action (R200): acknowledge again, deliver nothing, change no field. -/
def reAck (f : Frame) (s : State) : State :=
  (s.emit (.log .duplicate)).emit (.tx (makeAck s.cfg.sync f.id))

/-- `NEW_DATA(f)` (R201); `isEnd` is the `END` bit of the frame. -/
def newData (f : Frame) (isEnd : Bool) (s : State) : State :=
  closureCheck (State.emit
    { s.emit (.deliver f.payload) with
      lastDelivered := some { id := f.id.setWidth 1, checksum := f.checksum }
      inboundId := flipBit s.inboundId
      recvDone := s.recvDone || isEnd } (.tx (makeAck s.cfg.sync f.id)))

/-- Cases (c) and (d) (R199 to R201): a frame with neither `RST` nor `ACK`. -/
def dataCase (isEnd : Bool) (f : Frame) (s : State) : State :=
  if isDuplicate f s then reAck f s else newData f isEnd s

/-- Step 0 (R195): a frame with an illegal id is logged and nothing else. -/
def afterIdCheck (isRst : Bool) (k : Frame → State → State) (f : Frame) (s : State) : State :=
  if idRefused f.id isRst then s.emit (.log .illegalId) else k f s

/-- `CLASSIFY(f)` (R190): step 0, then `RST`, then `ACK`, then data. -/
def classify (f : Frame) (s : State) : State :=
  afterIdCheck (rstSet f.flags) (fun f s =>
    if rstSet f.flags then abortRst f.payload s
    else if ackSet f.flags then ackCase f s
    else dataCase (endSet f.flags) f s) f s

/-- The tail of `RX_READ` once a candidate is there (R143, R145): in a terminal state nothing happens (R207);
otherwise `carry` is emptied, the candidate is decoded, a decode error is logged and drops the whole
candidate, and a frame that decodes goes to `k`. -/
def receiveWith (k : Frame → State → State) (cand : Bytes) (s : State) : State :=
  if s.conn ≠ .opened then s
  else
    match decodeFrame s.cfg.sync cand with
    | .error e => s.clearCarry.emit (.log e.code)
    | .ok f => k f s.clearCarry

/-- A candidate received and classified (R143). -/
def receiveCandidate (cand : Bytes) (s : State) : State := receiveWith classify cand s

/-- The two illegal types: checks (b) and (c) come first, and what passes them fails check (d) (R91, R126). -/
def rejectIllegalFlags (h : Header) (payload : Bytes) (s : State) : State :=
  if s.conn ≠ .opened then s
  else if h.sync1 ≠ s.cfg.sync ∨ h.sync2 ≠ s.cfg.sync then s.clearCarry.emit (.log .invalidSync)
  else if h.length.toNat ≠ payload.length then s.clearCarry.emit (.log .lengthMismatch)
  else s.clearCarry.emit (.log .invalidFlags)

/-- A retransmitting expiry (R167): the pending bytes go out unchanged, the retransmission is counted, and the timer
is armed to the full interval. -/
def retransmit (f : Bytes) (s : State) : State :=
  State.emit { s with retryCount := s.retryCount + 1, rtxTimer := fullCount s.cfg.rtoTicks } (.tx f)

/-- A frame becomes pending and is transmitted, and the timer is armed (R161). -/
def transmitNew (f : Bytes) (s : State) : State :=
  State.emit { s with pending := some f, retryCount := 0, rtxTimer := fullCount s.cfg.rtoTicks } (.tx f)

end Sys2Proof.Machine
end

