-- ==== Sys2Proof/Machine/Events.lean ====
section
/-! DEFINITION. The meanings of the four port events (30_encoding.md rule R95). -/

namespace Sys2Proof.Machine

/-- RESET (R40): creates the connection state, in every state, with no output. -/
def execReset (s : State) : Host.Outcome State Fault Refusal := .next (resetConnection s)

/-- SEND (R161, R162). -/
def execSend (payload : Bytes) (isLast : Bool) (s : State) : Host.Outcome State Fault Refusal :=
  .next <|
    if s.conn = .aborted then s.emit .sendAborted
    else if !s.sendReady then s
    else if s.cfg.maxPayload.toNat < payload.length then s
    else transmitNew (makeData s.cfg.sync payload isLast s.outboundId) s

/-- RX_READ (R142 to R145): join the kept bytes to the read, scan, and hand the candidate on. -/
def execRxRead (chunk : Bytes) (s : State) : Host.Outcome State Fault Refusal :=
  .next <|
    if s.conn ≠ .opened ∨ chunk = [] then s
    else
      match scan (mark s.cfg.sync) (s.carry ++ chunk) with
      | none => State.emit { s with carry := lastSeven (s.carry ++ chunk) } (.log .noSyncFound)
      | some p => receiveCandidate ((s.carry ++ chunk).drop p) s

/-- TICK (R165 to R168): count down; at an expiry retransmit, or abort once the retry budget is spent. -/
def execTick (s : State) : Host.Outcome State Fault Refusal :=
  .next <|
    if s.conn ≠ .opened then s
    else
      match s.pending with
      | none => s
      | some f =>
        if s.rtxTimer - 1 ≠ 0 then { s with rtxTimer := s.rtxTimer - 1 }
        else if s.retryCount.toNat < s.cfg.retryLimit then retransmit f s
        else abortRetry s

end Sys2Proof.Machine
end

