-- ==== Sys2Proof/Machine/Frames.lean ====
section
/-! DEFINITION. The meanings of the eight wire frame types (30_encoding.md rule R86): what the block does when a
frame of the type is received whole. Each checks the frame as DECODE does (41_codec.md rule R122), then its id
(44_arq_receive.md rule R195), then does the work of its type. -/

namespace Sys2Proof.Machine

/-- DATA (R199 to R201): duplicate test, then delivery and acknowledgment. -/
def execData (h : Header) (payload : Bytes) (s : State) : Host.Outcome State Fault Refusal :=
  .next (receiveWith (afterIdCheck false (dataCase false)) (frameBytes .data h payload) s)

/-- DATA_END (R199 to R201): as DATA, and a new frame sets `recvDone`. -/
def execDataEnd (h : Header) (payload : Bytes) (s : State) : Host.Outcome State Fault Refusal :=
  .next (receiveWith (afterIdCheck false (dataCase true)) (frameBytes .dataEnd h payload) s)

/-- ACK (R197, R198): the pending frame is acknowledged, or the acknowledgment is stale. -/
def execAck (h : Header) (payload : Bytes) (s : State) : Host.Outcome State Fault Refusal :=
  .next (receiveWith (afterIdCheck false ackCase) (frameBytes .ack h payload) s)

/-- RST (R196): the connection is aborted. -/
def execRst (h : Header) (payload : Bytes) (s : State) : Host.Outcome State Fault Refusal :=
  .next (receiveWith (afterIdCheck true fun f s => abortRst f.payload s) (frameBytes .rst h payload) s)

/-- RST_END (R92, R196): handled as an `RST` frame. -/
def execRstEnd (h : Header) (payload : Bytes) (s : State) : Host.Outcome State Fault Refusal :=
  .next (receiveWith (afterIdCheck true fun f s => abortRst f.payload s) (frameBytes .rstEnd h payload) s)

/-- RST_ACK (R92, R196): handled as an `RST` frame; with a payload it fails check (d) (R91). -/
def execRstAck (h : Header) (payload : Bytes) (s : State) : Host.Outcome State Fault Refusal :=
  .next (receiveWith (afterIdCheck true fun f s => abortRst f.payload s) (frameBytes .rstAck h payload) s)

/-- ILLEGAL_ACK_END (R91): never decodes. -/
def execIllegalAckEnd (h : Header) (payload : Bytes) (s : State) : Host.Outcome State Fault Refusal :=
  .next (rejectIllegalFlags h payload s)

/-- ILLEGAL_ACK_END_RST (R91, R92): never decodes; the `RST` bit does not rescue it. -/
def execIllegalAckEndRst (h : Header) (payload : Bytes) (s : State) : Host.Outcome State Fault Refusal :=
  .next (rejectIllegalFlags h payload s)

end Sys2Proof.Machine
end

