-- ==== Sys2Proof/Machine/Dispatch.lean ====
section
/-! DEFINITION. The dispatch: one arm per row of the opcode table. -/

namespace Sys2Proof.Machine

def exec (i : Instr) (s : State) : Host.Outcome State Fault Refusal :=
  match i with
  -- the wire frame types (R86)
  | .data h p => Sys2Proof.Machine.execData h p s
  | .dataEnd h p => Sys2Proof.Machine.execDataEnd h p s
  | .ack h p => Sys2Proof.Machine.execAck h p s
  | .rst h p => Sys2Proof.Machine.execRst h p s
  | .rstEnd h p => Sys2Proof.Machine.execRstEnd h p s
  | .rstAck h p => Sys2Proof.Machine.execRstAck h p s
  | .illegalAckEnd h p => Sys2Proof.Machine.execIllegalAckEnd h p s
  | .illegalAckEndRst h p => Sys2Proof.Machine.execIllegalAckEndRst h p s
  -- the port events (R95)
  | .reset => Sys2Proof.Machine.execReset s
  | .send p l => Sys2Proof.Machine.execSend p l s
  | .rxRead c => Sys2Proof.Machine.execRxRead c s
  | .tick => Sys2Proof.Machine.execTick s

end Sys2Proof.Machine
end

