-- ==== Sys2Proof/Machine/Fetch.lean ====
section
/-! DEFINITION. Taking the next item from the port queue (00_scope.md rule R8, log entries 1 and 15). -/

namespace Sys2Proof.Machine

/-- The next presented item and the state without it; `none` when no agent has presented anything. -/
def takeNext (s : State) : Option (PortItem × State) :=
  match s.inbox with
  | [] => none
  | item :: rest => some (item, { s with inbox := rest })

/-- An item put before everything presented. -/
def presentFirst (item : PortItem) (s : State) : State := { s with inbox := item :: s.inbox }

/-- What the block does with an item that is no instruction: a received frame shorter than a header fails check (a)
of DECODE and is discarded (R123, R130). -/
def discardItem (item : PortItem) (s : State) : State :=
  match item with
  | .frame b => receiveCandidate b s
  | .event _ _ _ => s

end Sys2Proof.Machine
end

