-- ==== Sys2Proof/Machine/Step.lean ====
section
/-! DEFINITION. One step: one event, taken atomically (00_scope.md rule R8). -/

namespace Sys2Proof.Machine

/-- Take the next presented item, decode it and execute it. With nothing presented the block takes no event and
stays as it is (R248, log entry 2). -/
def step (s : State) : Host.Outcome State Fault Refusal :=
  match takeNext s with
  | none => .next s
  | some (item, s') =>
    match decode item with
    | .ok i => exec i s'
    | .error _ => .next (discardItem item s')

/-- `s` with the instruction of an opcode-table word presented first (log entry 7). -/
def State.withFetchWord (s : State) (nbits w : Nat) : State := presentFirst (portItemOfTableWord nbits w) s

end Sys2Proof.Machine
end

