-- ==== Sys2Proof/Safety.lean ====
section
/-! DEFINITION. What the statements are about: the invariants of 10_state.md rule R32, intact frames, the kinds of
frame the block emits (30_encoding.md rule R89), single-bit damage (40_checksum.md rule R116), and the shapes an event's
action list can have (44_arq_receive.md rule R209). -/

namespace Sys2Proof.Machine

/-- R32(a): what holds of the pending frame `f`. -/
def PendingHolds (s : State) (f : Bytes) : Prop :=
  s.conn = .opened ∧ be16At f 12 = idOfBit s.outboundId ∧ byteAt f 14 &&& 0xA0 = 0 ∧
    1 ≤ s.rtxTimer.toNat ∧ s.rtxTimer.toNat ≤ s.cfg.rtoTicks

/-- The invariants of R32, with the field names of its clauses. Clause (h), at most one unacknowledged frame, is the
type of `pending`. -/
structure BlockInv (s : State) : Prop where
  /-- R32(a). -/
  pendingHolds : ∀ f, s.pending = some f → PendingHolds s f
  /-- R32(b). -/
  timerStopped : s.pending = none → s.rtxTimer = 0
  /-- R32(c). -/
  retryBound : s.retryCount.toNat ≤ s.cfg.retryLimit
  /-- R32(d). -/
  carryShort : s.carry.length ≤ 7
  /-- R32(d). -/
  carryMarkFree : scan (mark s.cfg.sync) s.carry = none
  /-- R32(e). -/
  sendDoneIdle : s.sendDone = true → s.pending = none
  /-- R32(f). -/
  closedIff : s.conn = .closed ↔ s.sendDone = true ∧ s.recvDone = true
  /-- R32(g). -/
  causeIff : s.abortCause ≠ .none ↔ s.conn = .aborted

/-- The pending frame is a data frame as `SEND` builds it (R25, R161): never an `ACK` or `RST` frame (R172). -/
def PendingIsData (s : State) : Prop :=
  ∀ f, s.pending = some f →
    ∃ payload isLast, payload.length ≤ s.cfg.maxPayload.toNat ∧ f = makeData s.cfg.sync payload isLast s.outboundId

/-- The four kinds of frame the block emits (R89). -/
def EmittedKind (cfg : Cfg) (b : Bytes) : Prop :=
  (∃ payload isLast bit, payload.length ≤ cfg.maxPayload.toNat ∧ b = makeData cfg.sync payload isLast bit) ∨
    (∃ bit, b = makeAck cfg.sync (idOfBit bit)) ∨ b = makeRst cfg

/-- A received frame of type `t` that passes every decode check under the marker `sync`: the Frame invariants of R82
to R86. -/
def FrameIntact (sync : U32) (t : FrameType) (h : Header) (payload : Bytes) : Prop :=
  h.sync1 = sync ∧ h.sync2 = sync ∧ h.length.toNat = payload.length ∧
    flagsIllegal (flagsByte t h.reserved) h.length = false ∧ h.checksum = frameCsum (frameBytes t h payload)

/-- The frame with that id and checksum is the last delivered one (R199). -/
def SameAsLast (s : State) (h : Header) : Prop :=
  ∃ d, s.lastDelivered = some d ∧ h.id = idOfBit d.id ∧ h.checksum = d.checksum

/-- The bytes `b` with bit `k` of byte `i` changed (R116, R129). -/
def flipOneBit (b : Bytes) (i k : Nat) : Bytes := b.set i (byteAt b i ^^^ BitVec.twoPow 8 k)

/-- The other form of the checksum's sum (R113(c)): add a big-endian word into a 16-bit accumulator, and when the 17th
bit is set drop it and add 1. -/
def endAroundAdd (acc : Nat) (word : Byte × Byte) : Nat :=
  if acc + 256 * word.1.toNat + word.2.toNat < 65536 then acc + 256 * word.1.toNat + word.2.toNat
  else acc + 256 * word.1.toNat + word.2.toNat - 65536 + 1

/-- The error that one changed bit gives (R129), for a frame `b` that decodes. -/
def flipError (b : Bytes) (i k : Nat) : DecodeError :=
  if i < 8 then .invalidSync
  else if i < 10 then .checksumMismatch
  else if i < 12 then .lengthMismatch
  else if i = 14 ∧ k = 6 ∧ ackSet (byteAt b 14) then .invalidFlags
  else if i = 14 ∧ k = 7 ∧ !ackSet (byteAt b 14) ∧ (endSet (byteAt b 14) ∨ hdrLen < b.length) then .invalidFlags
  else .checksumMismatch

/-- The errors and the notice that leave everything but `carry` alone (R225). -/
def Code.recoverable : Code → Bool
  | .frameTooShort | .invalidSync | .lengthMismatch | .invalidFlags | .checksumMismatch | .noSyncFound
  | .illegalId | .staleAck => true
  | .none | .retryBudgetExhausted | .rstReceived | .duplicate | .connectFailure => false

/-- The action lists one event can emit (R62, R209): `DELIVER` before `TX`, `CLOSED` and `ABORTED` last. -/
def ActionShape (cfg : Cfg) (acts : List Action) : Prop :=
  acts = [] ∨ acts = [.sendAborted] ∨ acts = [.sendOk] ∨ acts = [.sendOk, .closed] ∨
    (∃ f, acts = [.tx f]) ∨ (∃ c, acts = [.log c] ∧ c.recoverable = true) ∨
    (∃ p bit, acts = [.deliver p, .tx (makeAck cfg.sync (idOfBit bit))]) ∨
    (∃ p bit, acts = [.deliver p, .tx (makeAck cfg.sync (idOfBit bit)), .closed]) ∨
    (∃ bit, acts = [.log .duplicate, .tx (makeAck cfg.sync (idOfBit bit))]) ∨
    (∃ msg, acts = [.aborted .rstReceived msg]) ∨
    acts = [.tx (makeRst cfg), .aborted .retryBudgetExhausted cfg.rstMsg]

/-- The instruction is a `SEND`. -/
def isSend : Instr → Bool
  | .send _ _ => true
  | .data _ _ | .dataEnd _ _ | .ack _ _ | .rst _ _ | .rstEnd _ _ | .rstAck _ _ | .illegalAckEnd _ _
  | .illegalAckEndRst _ _ | .reset | .rxRead _ | .tick => false

/-- The control state (R209): `conn` and `pendingValid`. -/
def State.control (s : State) : Conn × Bool := (s.conn, s.pendingValid)

end Sys2Proof.Machine
end

