-- ==== Sys2Proof/WellFormed.lean ====
section
/-! DEFINITION. The well-formed instructions: those that meet the Frame invariants of 30_encoding.md rules R82 to
R86, R91 and R93 and the operand bounds of the events (R51, R131). An instruction that is not well-formed still
has a meaning: the block discards such a frame by the rules that say so, and ignores such an event. The checksum
invariant (R83) is recomputed by the machine's DECODE and is not repeated here. -/

namespace Sys2Proof

/-- R82: both copies of the marker are the same. -/
def Header.markersAgree (h : Header) : Bool := h.sync1 = h.sync2

/-- R84: the length field is the number of payload bytes. -/
def Header.lengthAgrees (h : Header) (payload : Bytes) : Bool := h.length.toNat = payload.length

/-- R85: the id is a sequence bit. -/
def Header.idIsSeqBit (h : Header) : Bool := h.id = 0 || h.id = 1

/-- R93: the id an `RST` frame may carry. -/
def Header.idIsSeqBitOrSentinel (h : Header) : Bool := h.id = 0 || h.id = 1 || h.id = 0xFFFF

/-- R82 and R84, the invariants of every frame type. -/
def Header.agrees (h : Header) (payload : Bytes) : Bool := h.markersAgree && h.lengthAgrees payload

/-- Well-formed instructions. An `ACK` frame carries no payload (R86); `ACK` and `END` exclude each other (R91), so
the two illegal types are never well-formed; a `SEND` payload fits the length field (R131); a read is never
empty (R51). -/
def Instr.wellFormed : Instr → Bool
  | .data h p => h.agrees p && h.idIsSeqBit
  | .dataEnd h p => h.agrees p && h.idIsSeqBit
  | .ack h p => h.agrees p && h.idIsSeqBit && p.isEmpty
  | .rst h p => h.agrees p && h.idIsSeqBitOrSentinel
  | .rstEnd h p => h.agrees p && h.idIsSeqBitOrSentinel
  | .rstAck h p => h.agrees p && h.idIsSeqBitOrSentinel && p.isEmpty
  | .illegalAckEnd _ _ => false
  | .illegalAckEndRst _ _ => false
  | .reset => true
  | .send p _ => p.length ≤ 65535
  | .rxRead chunk => !chunk.isEmpty
  | .tick => true

end Sys2Proof
end

