-- ==== Sys2Proof/Certificates/Slice0/Obligations.lean ====
section
/-! DEFINITION. The statements about the DCCNET link block, one Prop each. The comment of each names the rule of
the spec it formalises. -/

open Sys2Proof Sys2Proof.Machine

/-! ## Encoding -/

/-- Every instruction, with every operand, is read back from its bits (R81, R86, R95): no bit is dropped. The bits of
an event's operands are the model's choice (log entry 14). -/
def Obligations.DecodeOfEncodeIsTheInstruction : Prop :=
  ∀ i : Instr, decode (encode i) = .ok i

/-- Every received frame of at least 15 bytes is one frame instruction, and writing it gives the bytes back (R81,
R94). That a received frame is an instruction of its own is the model's choice (log entry 6). -/
def Obligations.EncodeOfDecodedFrameIsTheBytes : Prop :=
  ∀ b : Bytes, 15 ≤ b.length →
    ∃ t h, decode (.frame b) = .ok (.ofFrame t h (b.drop 15)) ∧ encode (.ofFrame t h (b.drop 15)) = .frame b

/-- Words written out from the spec's encodings (F1, F14, an `RST` header with no payload, the event codes of R95) are
read as the instructions they stand for. The empty operands of SEND and RX_READ are the model's choice (log entry 7).
-/
def Obligations.SpecWordsDecodeToTheirInstructions : Prop :=
  decode (.frame [0xdc, 0xc0, 0x23, 0xc2, 0xdc, 0xc0, 0x23, 0xc2, 0xbc, 0xb6, 0x00, 0x02, 0x00, 0x00, 0x00, 0x41,
      0x42]) =
    .ok (.data ⟨0xDCC023C2, 0xDCC023C2, 0xBCB6, 2, 0, 0⟩ [0x41, 0x42]) ∧
  decode (.frame [0xdc, 0xc0, 0x23, 0xc2, 0xdc, 0xc0, 0x23, 0xc2, 0x7e, 0xf9, 0x00, 0x00, 0x00, 0x00, 0x80]) =
    .ok (.ack ⟨0xDCC023C2, 0xDCC023C2, 0x7EF9, 0, 0, 0⟩ []) ∧
  decodeTableWord 120 0xDCC023C2DCC023C2652F0000FFFF20 =
    some (.rst ⟨0xDCC023C2, 0xDCC023C2, 0x652F, 0, 0xFFFF, 0⟩ []) ∧
  decodeTableWord 8 0 = some .reset ∧ decodeTableWord 8 1 = some (.send [] false) ∧
  decodeTableWord 8 2 = some (.rxRead []) ∧ decodeTableWord 8 3 = some .tick

/-! ## The machine as a whole -/

/-- One event is one step (R8): when the next presented item is an instruction, the step is that instruction's meaning
on the state without the item. -/
def Obligations.StepRunsTheDecodedInstruction : Prop :=
  ∀ (s : State) (item : PortItem) (rest : List PortItem) (i : Instr),
    s.inbox = item :: rest → decode item = .ok i → step s = exec i { s with inbox := rest }

/-- What the step does where there is no instruction: with nothing presented the block takes no event (R248), and a
received frame shorter than a header is discarded with `FrameTooShort` (R123, R130). The queue and the frame lane are
the model's choice (log entries 1, 2 and 15). -/
def Obligations.StepWithoutAnInstruction : Prop :=
  (∀ s : State, s.inbox = [] → step s = .next s) ∧
  ∀ (s : State) (b : Bytes) (rest : List PortItem),
    s.inbox = .frame b :: rest → b.length < 15 → s.conn = .opened →
      step s = .next { s with inbox := rest, carry := [], out := s.out ++ [.log .frameTooShort] }

/-- No rule of the spec stops the block (log entry 13): from every state the step answers a next state. -/
def Obligations.EveryStepHasANextState : Prop :=
  ∀ s : State, ∃ t, step s = .next t

/-- R32 (which the spec derives): the invariants hold after every event. -/
def Obligations.InvariantsHoldAfterEveryStep : Prop :=
  ∀ s t : State, BlockInv s → step s = .next t → BlockInv t

/-- R32 (which the spec derives): the invariants hold after RESET, whatever the state before, and at the model's reset
state, whose configuration is the model's choice (log entry 4). -/
def Obligations.InvariantsHoldAtReset : Prop :=
  BlockInv State.reset ∧ ∀ s t : State, exec .reset s = .next t → BlockInv t

/-- R5, R64, R62: no step changes the configuration, and what has been emitted stays emitted. That both stand in the
state is the model's choice (log entries 3 and 4). -/
def Obligations.ConfigurationAndPastOutputsNeverChange : Prop :=
  ∀ s t : State, step s = .next t → t.cfg = s.cfg ∧ s.out <+: t.out

/-- R62 and R209 (the spec's decision D26, and a table it derives): the actions of one event come in one of the listed
shapes, `DELIVER` before `TX`, `CLOSED` and `ABORTED` last. -/
def Obligations.ActionsOfOneEventAreOrdered : Prop :=
  ∀ (i : Instr) (s t : State), exec i s = .next t → ∃ acts, t.out = s.out ++ acts ∧ ActionShape s.cfg acts

/-- R89, R53, R172 (which the spec derives): every frame the block transmits is a whole data frame, acknowledgment or
reset frame, and what is pending stays a data frame. -/
def Obligations.OnlyTheFourFrameKindsAreTransmitted : Prop :=
  ∀ (i : Instr) (s t : State), PendingIsData s → exec i s = .next t →
    PendingIsData t ∧
      ∃ acts, t.out = s.out ++ acts ∧ ∀ b, Action.tx b ∈ acts → EmittedKind s.cfg b

/-- What the block transmits, a peer with the same marker decodes (R53, R89, R128). -/
def Obligations.TransmittedFramesDecode : Prop :=
  ∀ (cfg : Cfg) (b : Bytes), EmittedKind cfg b →
    ∃ f, decodeFrame cfg.sync b = .ok f ∧ b.length = 15 + f.payload.length ∧ idRefused f.id (rstSet f.flags) = false

/-- R164 (which the spec derives): while a frame is pending, no event puts another in its place: it stays as it is, or
it is cleared by its acknowledgment, by an abort or by RESET. -/
def Obligations.OneOutstandingFrame : Prop :=
  ∀ (i : Instr) (s t : State) (f : Bytes), s.conn = .opened → s.pending = some f → exec i s = .next t →
    t.pending = some f ∨
      t.pending = none ∧ (i = .reset ∨ t.conn = .aborted ∨
        ∃ rest, t.out = s.out ++ .sendOk :: rest ∧ t.outboundId = flipBit s.outboundId)

/-- R23, R202: `inboundId` is written and never read: two states that differ only in it stay so. -/
def Obligations.InboundIdIsNeverConsulted : Prop :=
  ∀ (i : Instr) (s t : State) (b : SeqBit), exec i s = .next t →
    ∃ c, exec i { s with inboundId := b } = .next { t with inboundId := c }

/-- R230, R196, R232, R233: there are exactly two ways into `Aborted`, and every other field keeps its value. One is a
`TICK` that is an expiry with the retry budget spent. The other is a received frame that decodes, with the `RST` bit
and a legal id, whose payload is the message: an RST, RST_END or RST_ACK frame instruction, or what an `RX_READ` finds
(the frame instruction is the model's choice, log entry 6). -/
def Obligations.ExactlyTwoWaysIntoAborted : Prop :=
  ∀ (i : Instr) (s t : State), exec i s = .next t → s.conn ≠ .aborted → t.conn = .aborted →
    (i = .tick ∧ s.conn = .opened ∧ s.pending ≠ none ∧ s.rtxTimer = 1 ∧ s.cfg.retryLimit ≤ s.retryCount.toNat ∧
      t = { s with
        conn := .aborted, abortCause := .retryBudgetExhausted, pending := none, rtxTimer := 0,
        out := s.out ++ [.tx (makeRst s.cfg), .aborted .retryBudgetExhausted s.cfg.rstMsg] }) ∨
    ∃ msg,
      ((∃ ty h p, (ty = .rst ∨ ty = .rstEnd ∨ ty = .rstAck) ∧ i = .ofFrame ty h p ∧ FrameIntact s.cfg.sync ty h p ∧
          (h.id = 0 ∨ h.id = 1 ∨ h.id = 0xFFFF) ∧ msg = p) ∨
        ∃ chunk n f, i = .rxRead chunk ∧ chunk ≠ [] ∧ scan (mark s.cfg.sync) (s.carry ++ chunk) = some n ∧
          decodeFrame s.cfg.sync ((s.carry ++ chunk).drop n) = .ok f ∧ rstSet f.flags = true ∧
          (f.id = 0 ∨ f.id = 1 ∨ f.id = 0xFFFF) ∧ msg = f.payload) ∧
      s.conn = .opened ∧
      t = { s with
        conn := .aborted, abortCause := .rstReceived, pending := none, rtxTimer := 0, carry := [],
        out := s.out ++ [.aborted .rstReceived msg] }

/-- R207, R234, R162 (the spec's decisions D17 and D18): a terminal state takes no event but RESET. `SEND` on an
aborted connection is answered `SEND_ABORTED` and changes nothing; every other instruction leaves the state as it is.
-/
def Obligations.TerminalStatesAbsorb : Prop :=
  ∀ (i : Instr) (s : State), s.conn ≠ .opened → i ≠ .reset →
    exec i s = if isSend i = true ∧ s.conn = .aborted then .next { s with out := s.out ++ [.sendAborted] } else .next s

/-! ## RESET -/

/-- R40 (the values are the spec's decisions D8 and D9): what RESET writes, in every state, with no output; and it is
the only way out of a terminal state. -/
def Obligations.ResetCreatesTheConnection : Prop :=
  (∀ s : State, exec .reset s = .next
    { cfg := s.cfg, conn := .opened, outboundId := 0, inboundId := 0, lastDelivered := none, pending := none,
      retryCount := 0, rtxTimer := 0, sendDone := false, recvDone := false, carry := [], abortCause := .none,
      inbox := s.inbox, out := s.out }) ∧
  ∀ (i : Instr) (s t : State), exec i s = .next t → s.conn ≠ .opened → i ≠ .reset → t.conn = s.conn

/-- R36, R260 (the spec's decisions D8 and D31): what a host reads at the status registers S0..S7 right after reset.
-/
def Obligations.StatusRegistersAfterReset : Prop :=
  ∀ s t : State, exec .reset s = .next t →
    t.status = { conn := 0, sendReady := true, sendDone := false, recvDone := false, outboundId := 0, inboundId := 0,
                 retryCount := 0, abortCause := 0 }

/-- R21, R30, R33, R36, R222 (the spec's decisions D8, D17, D22, D29 and D31): what a host reads at S0, S1 and S7 as
the connection goes on, closes or aborts. S0 is 0, 1 or 2; `send_ready` is 0 once the connection has ended; S7 is 0
until an abort, 7 after one on retry exhaustion, which is a `TICK`, and 8 after one on a received `RST`. -/
def Obligations.StatusRegistersShowHowTheConnectionEnded : Prop :=
  ∀ (i : Instr) (s t : State), BlockInv s → exec i s = .next t →
    (t.conn = .opened → t.status.conn = 0 ∧ t.status.abortCause = 0) ∧
    (t.conn = .closed → t.status.conn = 1 ∧ t.status.sendReady = false ∧ t.status.sendDone = true ∧
      t.status.recvDone = true ∧ t.status.abortCause = 0) ∧
    (t.conn = .aborted → t.status.conn = 2 ∧ t.status.sendReady = false) ∧
    (s.conn = .opened → t.conn = .aborted → i = .tick → t.status.abortCause = 7) ∧
    (s.conn = .opened → t.conn = .aborted → i ≠ .tick → t.status.abortCause = 8) ∧
    (s.conn = .aborted → i ≠ .reset → t.status.abortCause = s.status.abortCause)

/-- R21, R222 (the spec's decisions D8 and D22): the numbers of the connection states and of the codes. -/
def Obligations.StatesAndCodesAreNumberedAsInTheTables : Prop :=
  [Conn.opened, .closed, .aborted].map Conn.code = [0, 1, 2] ∧
  [Code.none, .frameTooShort, .invalidSync, .lengthMismatch, .invalidFlags, .checksumMismatch, .noSyncFound,
    .retryBudgetExhausted, .rstReceived, .illegalId, .staleAck, .duplicate, .connectFailure].map Code.number =
    [0, 1, 2, 3, 4, 5, 6, 7, 8, 9, 10, 11, 12]

/-! ## The counters -/

/-- R26, R27 (the spec's decisions D4 and D19): the width of a counter of range `0..limit` is `max(1, ceil(log2(limit
+ 1)))` bits, which is one bit or the least number that holds the range, 5 for the default `RETRY_LIMIT`. Within its
range a counter neither wraps counting up, nor counting down, nor when it is loaded. -/
def Obligations.CountersHaveTheLeastWidthThatHoldsTheirRange : Prop :=
  (∀ limit : Nat, counterWidth limit = max 1 (Nat.clog 2 (limit + 1)) ∧ limit < 2 ^ counterWidth limit ∧
    ∀ w, 1 ≤ w → limit < 2 ^ w → counterWidth limit ≤ w) ∧
  counterWidth 16 = 5 ∧
  ∀ s : State,
    (s.retryCount.toNat < s.cfg.retryLimit → (s.retryCount + 1).toNat = s.retryCount.toNat + 1) ∧
    (1 ≤ s.rtxTimer.toNat → (s.rtxTimer - 1).toNat = s.rtxTimer.toNat - 1) ∧
    (fullCount s.cfg.rtoTicks).toNat = s.cfg.rtoTicks

/-! ## The checksum -/

/-- R113(a) (which the spec derives): after two folds the sum is 0 when it was 0, and otherwise its residue modulo
65535 taken in 1..65535; and the checksum is its complement. -/
def Obligations.ChecksumClosedForm : Prop :=
  ∀ b : Bytes, b.length ≤ 131072 →
    foldCarry (foldCarry (wordSum b)) = (if wordSum b = 0 then 0 else (wordSum b - 1) % 65535 + 1) ∧
    (csum16 b).toNat = 65535 - foldCarry (foldCarry (wordSum b))

/-- R111, corner cases: the result is 0xFFFF exactly when every byte is zero, and 0x0000 exactly when the sum is a
positive multiple of 65535. -/
def Obligations.ChecksumOfAllOnesAndZero : Prop :=
  ∀ b : Bytes, b.length ≤ 131072 →
    (csum16 b = 0xFFFF ↔ ∀ x ∈ b, x = 0) ∧ (csum16 b = 0 ↔ 0 < wordSum b ∧ 65535 ∣ wordSum b)

/-- R113(c) (which the spec derives): adding each word into a 16-bit accumulator with end-around carry reaches the
same value as summing and folding twice. -/
def Obligations.EndAroundAccumulatorIsExact : Prop :=
  ∀ ws : List (Byte × Byte), ws.length ≤ 65536 →
    ws.foldl endAroundAdd 0 = foldCarry (foldCarry (wordSum (ws.flatMap fun w => [w.1, w.2])))

/-- R113(b) and (d) (which the spec derives): the checksum does not depend on the order of the 16-bit words, and one
more word of ones leaves the checksum of a sequence that is not all zero as it was. -/
def Obligations.ChecksumIgnoresWordOrderAndOnes : Prop :=
  ∀ ws vs : List (Byte × Byte), ws.length ≤ 65535 → ws.Perm vs →
    csum16 (ws.flatMap fun w => [w.1, w.2]) = csum16 (vs.flatMap fun w => [w.1, w.2]) ∧
    (0 < wordSum (ws.flatMap fun w => [w.1, w.2]) →
      csum16 ((ws.flatMap fun w => [w.1, w.2]) ++ [0xFF, 0xFF]) = csum16 (ws.flatMap fun w => [w.1, w.2]))

/-- R114: the frame checksum does not depend on the bytes of the checksum field. -/
def Obligations.FrameChecksumIgnoresItsField : Prop :=
  ∀ (pre post : Bytes) (a b c d : Byte), pre.length = 8 →
    frameCsum (pre ++ a :: b :: post) = frameCsum (pre ++ c :: d :: post)

/-! ## The codec -/

/-- R128: DECODE of ENCODE gives the operands back, and (which the spec derives) ENCODE of what DECODE returned gives
the bytes back. -/
def Obligations.FrameCodecRoundTrip : Prop :=
  (∀ (sync : U32) (payload : Bytes) (id : U16) (flags : Byte), payload.length ≤ 65535 →
    (ackSet flags = true → endSet flags = false ∧ payload = []) →
      ∃ f, decodeFrame sync (encodeFrame sync payload id flags) = .ok f ∧ f.payload = payload ∧ f.id = id ∧
        f.flags = flags ∧ f.length.toNat = payload.length ∧
        f.checksum = frameCsum (encodeFrame sync payload id flags)) ∧
  ∀ (sync : U32) (b : Bytes) (f : Frame), decodeFrame sync b = .ok f →
    encodeFrame sync f.payload f.id f.flags = b ∧ f.length.toNat = f.payload.length

/-- R121: the length ENCODE guarantees. -/
def Obligations.EncodedFrameLength : Prop :=
  ∀ (sync : U32) (payload : Bytes) (id : U16) (flags : Byte),
    (encodeFrame sync payload id flags).length = 15 + payload.length

/-- R122: DECODE reports the first check that fails, in the order (a) to (e), and otherwise the Frame. -/
def Obligations.DecodeReportsTheFirstFailedCheck : Prop :=
  ∀ (sync : U32) (b : Bytes),
    (b.length < 15 → decodeFrame sync b = .error .frameTooShort) ∧
    (15 ≤ b.length → b.take 8 ≠ mark sync → decodeFrame sync b = .error .invalidSync) ∧
    (15 ≤ b.length → b.take 8 = mark sync →
      ((be16At b 10).toNat ≠ b.length - 15 → decodeFrame sync b = .error .lengthMismatch) ∧
      ((be16At b 10).toNat = b.length - 15 →
        ((byteAt b 14).getLsbD 7 = true ∧ ((byteAt b 14).getLsbD 6 = true ∨ b.length ≠ 15) →
          decodeFrame sync b = .error .invalidFlags) ∧
        (¬((byteAt b 14).getLsbD 7 = true ∧ ((byteAt b 14).getLsbD 6 = true ∨ b.length ≠ 15)) →
          (frameCsum b ≠ be16At b 8 → decodeFrame sync b = .error .checksumMismatch) ∧
          (frameCsum b = be16At b 8 → decodeFrame sync b = .ok
            { checksum := be16At b 8, length := be16At b 10, id := be16At b 12, flags := byteAt b 14,
              payload := b.drop 15 }))))

/-- R129, R116(a) (which the spec derives): one changed bit of a frame that decodes never passes, and which error it
gives. -/
def Obligations.OneChangedBitNeverDecodes : Prop :=
  ∀ (sync : U32) (b : Bytes) (f : Frame) (i k : Nat), decodeFrame sync b = .ok f → i < b.length → k < 8 →
    decodeFrame sync (flipOneBit b i k) = .error (flipError b i k)

/-- R88, R147 (the spec's decision D13): a frame followed by more bytes in the same candidate fails `LengthMismatch`,
and so does one that has lost bytes but still holds its header. -/
def Obligations.FrameNotEndingAtTheReadIsRefused : Prop :=
  ∀ (sync : U32) (b : Bytes) (f : Frame), decodeFrame sync b = .ok f →
    (∀ extra : Bytes, extra ≠ [] → decodeFrame sync (b ++ extra) = .error .lengthMismatch) ∧
    ∀ n, 15 ≤ n → n < b.length → decodeFrame sync (b.take n) = .error .lengthMismatch

/-! ## The resynchronizer and RX_READ -/

/-- R141: SCAN answers the smallest offset at which the whole marker pair stands, and none when there is none. -/
def Obligations.ScanFindsTheFirstMarkerPair : Prop :=
  ∀ (sync : U32) (b : Bytes),
    (∀ p, scan (mark sync) b = some p ↔
      p + 8 ≤ b.length ∧ (b.drop p).take 8 = mark sync ∧ ∀ q, q < p → (b.drop q).take 8 ≠ mark sync) ∧
    (scan (mark sync) b = none ↔ ∀ p, p + 8 ≤ b.length → (b.drop p).take 8 ≠ mark sync)

/-- R146 (which the spec derives; decision D14): when no marker pair stands in `b`, keeping its last seven bytes
gives, with whatever comes next, the same candidate and the same kept bytes as keeping all of `b`. -/
def Obligations.SevenKeptBytesAreEnough : Prop :=
  ∀ (sync : U32) (b c : Bytes), scan (mark sync) b = none →
    (scan (mark sync) (b ++ c)).map (fun p => (b ++ c).drop p) =
      (scan (mark sync) (lastSeven b ++ c)).map (fun p => (lastSeven b ++ c).drop p) ∧
    lastSeven (b ++ c) = lastSeven (lastSeven b ++ c)

/-- R142 (the spec's decision D13): RX_READ is ignored when the connection is not open or the read is empty. -/
def Obligations.ReadIsIgnoredWhenNotOpenOrEmpty : Prop :=
  ∀ (chunk : Bytes) (s : State), s.conn ≠ .opened ∨ chunk = [] → exec (.rxRead chunk) s = .next s

/-- R144: a read with no marker pair keeps the last seven bytes and logs `NoSyncFound`; nothing else changes. -/
def Obligations.ReadWithoutMarkerKeepsItsTail : Prop :=
  ∀ (chunk : Bytes) (s : State), s.conn = .opened → chunk ≠ [] →
    scan (mark s.cfg.sync) (s.carry ++ chunk) = none →
      exec (.rxRead chunk) s = .next
        { s with
          carry := (s.carry ++ chunk).drop ((s.carry ++ chunk).length - 7), out := s.out ++ [.log .noSyncFound] }

/-- R145 (the spec's decision D15), R130: a candidate that does not decode is dropped whole, its error is logged, and
nothing else changes. -/
def Obligations.ReadThatDoesNotDecodeIsDropped : Prop :=
  ∀ (chunk : Bytes) (s : State) (p : Nat) (e : DecodeError), s.conn = .opened → chunk ≠ [] →
    scan (mark s.cfg.sync) (s.carry ++ chunk) = some p →
    decodeFrame s.cfg.sync ((s.carry ++ chunk).drop p) = .error e →
      exec (.rxRead chunk) s = .next { s with carry := [], out := s.out ++ [.log e.code] }

/-- R143, R86, R94: a read that holds a marker pair does what the frame instruction found there does: the frame type
selects the meaning, and the bytes before the pair are discarded. -/
def Obligations.ReadRunsTheFrameItFinds : Prop :=
  ∀ (chunk : Bytes) (s : State) (p : Nat) (i : Instr), s.conn = .opened → chunk ≠ [] →
    scan (mark s.cfg.sync) (s.carry ++ chunk) = some p →
    decode (.frame ((s.carry ++ chunk).drop p)) = .ok i →
      exec (.rxRead chunk) s = exec i s

/-- R225 (which the spec derives): an RX_READ that ends in a recoverable error or a stale acknowledgment leaves every
field but `carry` as it was, and its only output is the log. -/
def Obligations.RecoverableErrorsChangeOnlyCarry : Prop :=
  ∀ (chunk : Bytes) (s t : State) (acts : List Action) (c : Code), exec (.rxRead chunk) s = .next t →
    t.out = s.out ++ acts → Action.log c ∈ acts → c.recoverable = true →
      acts = [.log c] ∧ t = { s with carry := t.carry, out := t.out }

/-- R124, conflict C6: RX_READ never logs `InvalidSync`, because its candidate begins with the marker pair. -/
def Obligations.ReadNeverReportsInvalidSync : Prop :=
  ∀ (chunk : Bytes) (s t : State) (acts : List Action), exec (.rxRead chunk) s = .next t →
    t.out = s.out ++ acts → Action.log .invalidSync ∉ acts

/-! ## The frame types -/

/-- R201, R206, R28: a new data frame is delivered, recorded and acknowledged, `inboundId` flips, `END` sets
`recvDone`, and the connection closes when both flags are then set. -/
def Obligations.NewDataFrameIsDeliveredAndAcknowledged : Prop :=
  ∀ (isEnd : Bool) (h : Header) (p : Bytes) (s : State), s.conn = .opened →
    FrameIntact s.cfg.sync (if isEnd then .dataEnd else .data) h p → h.id = 0 ∨ h.id = 1 → ¬SameAsLast s h →
      exec (if isEnd then .dataEnd h p else .data h p) s = .next
        { s with
          carry := []
          lastDelivered := some { id := h.id.setWidth 1, checksum := h.checksum }
          inboundId := flipBit s.inboundId
          recvDone := s.recvDone || isEnd
          conn := if s.sendDone && (s.recvDone || isEnd) then .closed else .opened
          out := s.out ++ [.deliver p, .tx (makeAck s.cfg.sync h.id)] ++
            (if s.sendDone && (s.recvDone || isEnd) then [.closed] else []) }

/-- R200: a duplicate data frame is acknowledged again and not delivered; no field but `carry` changes. -/
def Obligations.DuplicateDataFrameIsAcknowledgedAgain : Prop :=
  ∀ (isEnd : Bool) (h : Header) (p : Bytes) (s : State), s.conn = .opened →
    FrameIntact s.cfg.sync (if isEnd then .dataEnd else .data) h p → SameAsLast s h →
      exec (if isEnd then .dataEnd h p else .data h p) s = .next
        { s with carry := [], out := s.out ++ [.log .duplicate, .tx (makeAck s.cfg.sync h.id)] }

/-- R200 and the source's property EX3: after a new data frame has been delivered and while the connection is open,
the same frame again is a duplicate. -/
def Obligations.DeliveredFrameIsNotDeliveredAgain : Prop :=
  ∀ (isEnd : Bool) (h : Header) (p : Bytes) (s t : State), s.conn = .opened →
    FrameIntact s.cfg.sync (if isEnd then .dataEnd else .data) h p → h.id = 0 ∨ h.id = 1 →
    exec (if isEnd then .dataEnd h p else .data h p) s = .next t → t.conn = .opened →
      exec (if isEnd then .dataEnd h p else .data h p) t = .next
        { t with out := t.out ++ [.log .duplicate, .tx (makeAck s.cfg.sync h.id)] }

/-- R198, R206: a matching acknowledgment ends the send, flips `outboundId`, clears the retry counter and the timer,
sets `sendDone` for an `END` frame, and closes the connection when both flags are then set. -/
def Obligations.MatchingAckEndsTheSend : Prop :=
  ∀ (h : Header) (s : State) (f : Bytes), s.conn = .opened → FrameIntact s.cfg.sync .ack h [] →
    s.pending = some f → h.id = idOfBit s.outboundId →
      exec (.ack h []) s = .next
        { s with
          carry := []
          outboundId := flipBit s.outboundId
          retryCount := 0
          pending := none
          rtxTimer := 0
          sendDone := s.sendDone || (byteAt f 14).getLsbD 6
          conn := if (s.sendDone || (byteAt f 14).getLsbD 6) && s.recvDone then .closed else .opened
          out := s.out ++ [.sendOk] ++
            (if (s.sendDone || (byteAt f 14).getLsbD 6) && s.recvDone then [.closed] else []) }

/-- R197: an acknowledgment with nothing pending or another sequence bit is logged as stale and changes nothing but
`carry`. -/
def Obligations.StaleAckIsIgnored : Prop :=
  ∀ (h : Header) (s : State), s.conn = .opened → FrameIntact s.cfg.sync .ack h [] → h.id = 0 ∨ h.id = 1 →
    s.pending = none ∨ h.id ≠ idOfBit s.outboundId →
      exec (.ack h []) s = .next { s with carry := [], out := s.out ++ [.log .staleAck] }

/-- R196, R233, R92: an `RST` frame, with or without `END` or `ACK`, aborts the connection at once, drops what is
pending and sends nothing. -/
def Obligations.ReceivedRstAborts : Prop :=
  ∀ (h : Header) (p : Bytes) (s : State), s.conn = .opened → h.id = 0 ∨ h.id = 1 ∨ h.id = 0xFFFF →
    let t : State := { s with
      carry := [], conn := .aborted, abortCause := .rstReceived, pending := none, rtxTimer := 0,
      out := s.out ++ [.aborted .rstReceived p] }
    (FrameIntact s.cfg.sync .rst h p → exec (.rst h p) s = .next t) ∧
    (FrameIntact s.cfg.sync .rstEnd h p → exec (.rstEnd h p) s = .next t) ∧
    (FrameIntact s.cfg.sync .rstAck h p → exec (.rstAck h p) s = .next t)

/-- R195 (the spec's decision D10): an intact frame whose id is not a sequence bit, nor the sentinel on an `RST`
frame, is logged and changes nothing but `carry`. -/
def Obligations.IllegalIdIsDiscarded : Prop :=
  ∀ (ty : FrameType) (h : Header) (p : Bytes) (s : State), s.conn = .opened → FrameIntact s.cfg.sync ty h p →
    h.id ≠ 0 → h.id ≠ 1 → (h.id = 0xFFFF → ty = .data ∨ ty = .dataEnd ∨ ty = .ack) →
      exec (.ofFrame ty h p) s = .next { s with carry := [], out := s.out ++ [.log .illegalId] }

/-- R91: `ACK` with `END` is rejected with `InvalidFlags` before the checksum is looked at, whatever else is set;
nothing but `carry` changes. -/
def Obligations.IllegalFlagsAreDiscarded : Prop :=
  ∀ (h : Header) (p : Bytes) (s : State), s.conn = .opened →
    h.sync1 = s.cfg.sync → h.sync2 = s.cfg.sync → h.length.toNat = p.length →
      let t : State := { s with carry := [], out := s.out ++ [.log .invalidFlags] }
      exec (.illegalAckEnd h p) s = .next t ∧ exec (.illegalAckEndRst h p) s = .next t ∧
      (p ≠ [] → exec (.ack h p) s = .next t ∧ exec (.rstAck h p) s = .next t)

/-- R130: a received frame of any type that fails a decode check is logged and dropped; nothing but `carry` changes.
-/
def Obligations.FrameThatFailsACheckIsDropped : Prop :=
  ∀ (ty : FrameType) (h : Header) (p : Bytes) (s : State) (e : DecodeError), s.conn = .opened →
    decodeFrame s.cfg.sync (frameBytes ty h p) = .error e →
      exec (.ofFrame ty h p) s = .next { s with carry := [], out := s.out ++ [.log e.code] }

/-! ## SEND -/

/-- R161: an accepted `SEND` encodes the payload with the current sequence bit, makes it pending, arms the timer and
transmits; `outboundId` does not change. -/
def Obligations.AcceptedSendTransmitsAndArms : Prop :=
  ∀ (p : Bytes) (l : Bool) (s : State), s.conn = .opened → s.pending = none → s.sendDone = false →
    p.length ≤ s.cfg.maxPayload.toNat →
      let f := encodeFrame s.cfg.sync p (if s.outboundId = 1 then 1 else 0) (if l then 0x40 else 0)
      exec (.send p l) s = .next
        { s with pending := some f, retryCount := 0, rtxTimer := fullCount s.cfg.rtoTicks, out := s.out ++ [.tx f] }

/-- R162 (the spec's decision D17): a `SEND` that is not accepted changes nothing; on an aborted connection it is
answered `SEND_ABORTED`. -/
def Obligations.RefusedSendChangesNothing : Prop :=
  ∀ (p : Bytes) (l : Bool) (s : State),
    (s.conn = .aborted → exec (.send p l) s = .next { s with out := s.out ++ [.sendAborted] }) ∧
    (s.conn ≠ .aborted →
      s.conn = .closed ∨ s.pending ≠ none ∨ s.sendDone = true ∨ s.cfg.maxPayload.toNat < p.length →
        exec (.send p l) s = .next s)

/-- R33 (the spec's decision D17): `send_ready` tells whether a `SEND` of a payload within `MAX_PAYLOAD` is accepted,
that is, makes a frame pending where none was. -/
def Obligations.SendReadyTellsAcceptance : Prop :=
  ∀ (p : Bytes) (l : Bool) (s t : State), p.length ≤ s.cfg.maxPayload.toNat → exec (.send p l) s = .next t →
    (s.sendReady = true ↔ s.pending = none ∧ t.pending ≠ none)

/-! ## TICK -/

/-- R165: a `TICK` with nothing pending, or on a connection that is not open, changes nothing. -/
def Obligations.TickWithNothingPendingDoesNothing : Prop :=
  ∀ s : State, s.conn ≠ .opened ∨ s.pending = none → exec .tick s = .next s

/-- R166, R167: a `TICK` with a frame pending counts the timer down, and at an expiry within the retry budget sends
the same bytes again, counts the retransmission and arms the timer anew. -/
def Obligations.TickCountsDownAndRetransmits : Prop :=
  ∀ (s : State) (f : Bytes), s.conn = .opened → s.pending = some f →
    (1 < s.rtxTimer.toNat → exec .tick s = .next { s with rtxTimer := s.rtxTimer - 1 }) ∧
    (s.rtxTimer = 1 → s.retryCount.toNat < s.cfg.retryLimit → exec .tick s = .next
      { s with retryCount := s.retryCount + 1, rtxTimer := fullCount s.cfg.rtoTicks, out := s.out ++ [.tx f] })

/-- R232, R168 (the spec's decision D4): an expiry with the retry budget spent sends the reset frame, aborts, and
surfaces the error; `retryCount` and `outboundId` keep their values. -/
def Obligations.TickWithBudgetSpentAborts : Prop :=
  ∀ (s : State) (f : Bytes), s.conn = .opened → s.pending = some f → s.rtxTimer = 1 →
    s.retryCount.toNat = s.cfg.retryLimit → exec .tick s = .next
      { s with
        conn := .aborted, abortCause := .retryBudgetExhausted, pending := none, rtxTimer := 0,
        out := s.out ++ [.tx (encodeFrame s.cfg.sync s.cfg.rstMsg 65535 0x20),
          .aborted .retryBudgetExhausted s.cfg.rstMsg] }

/-- R61 (which the spec derives): a retransmitting expiry and the matching acknowledgment, ready together, are taken
in either order. Expiry first sends the frame once more and the acknowledgment still matches; acknowledgment first
leaves the `TICK` nothing to do; both end in the same state but for what was sent. -/
def Obligations.ExpiryAndAckInEitherOrder : Prop :=
  ∀ (h : Header) (s : State) (f : Bytes), s.conn = .opened → FrameIntact s.cfg.sync .ack h [] →
    s.pending = some f → h.id = idOfBit s.outboundId → s.rtxTimer = 1 → s.retryCount.toNat < s.cfg.retryLimit →
      ∃ t u acts, exec (.ack h []) s = .next u ∧ exec .tick u = .next u ∧ u.out = s.out ++ .sendOk :: acts ∧
        exec .tick s = .next t ∧ t.out = s.out ++ [.tx f] ∧
        exec (.ack h []) t = .next { u with out := s.out ++ .tx f :: .sendOk :: acts }

/-- R169 (which the spec derives): a frame that is never acknowledged is transmitted once by `SEND` and then
`RETRY_LIMIT` times, `RTO_TICKS` ticks apart, and the connection is aborted at tick `(RETRY_LIMIT + 1) * RTO_TICKS`
after the `SEND`. The ticks are run by the machine's own step from a queue that holds nothing else (the queue is the
model's choice, log entry 1). -/
def Obligations.UnacknowledgedFrameEndsInAbort : Prop :=
  ∀ (s t : State) (p : Bytes) (l : Bool) (f : Bytes),
    s.conn = .opened → s.pending = none → exec (.send p l) s = .next t → t.pending = some f →
    t.out = s.out ++ [.tx f] ∧
    (∀ k j, k ≤ t.cfg.retryLimit → j < t.cfg.rtoTicks →
      Sys2Proof.core.run (k * t.cfg.rtoTicks + j)
          { t with inbox := List.replicate (k * t.cfg.rtoTicks + j) (encode .tick) } =
        .next { t with
          inbox := [], retryCount := BitVec.ofNat _ k, rtxTimer := BitVec.ofNat _ (t.cfg.rtoTicks - j),
          out := t.out ++ List.replicate k (.tx f) }) ∧
    Sys2Proof.core.run ((t.cfg.retryLimit + 1) * t.cfg.rtoTicks)
        { t with inbox := List.replicate ((t.cfg.retryLimit + 1) * t.cfg.rtoTicks) (encode .tick) } =
      .next { t with
        inbox := [], conn := .aborted, abortCause := .retryBudgetExhausted, pending := none, rtxTimer := 0,
        retryCount := fullCount t.cfg.retryLimit,
        out := t.out ++ List.replicate t.cfg.retryLimit (.tx f) ++
          [.tx (makeRst t.cfg), .aborted .retryBudgetExhausted t.cfg.rstMsg] }

/-! ## Two blocks -/

/-- R160, R201, R198: one round of the protocol between two blocks with the same marker and no kept bytes. `a` takes a
payload; `b` reads the frame `a` transmits, delivers the payload (it is not the one last delivered) and answers an
acknowledgment; `a` reads that and reports `SEND_OK`, its sequence bit flipped. -/
def Obligations.OneRoundDeliversThePayload : Prop :=
  ∀ (a b a1 : State) (p : Bytes) (l : Bool), a.cfg.sync = b.cfg.sync → a.carry = [] → b.carry = [] →
    b.conn = .opened → a.sendReady = true → p.length ≤ a.cfg.maxPayload.toNat →
    exec (.send p l) a = .next a1 →
    ∃ f, a1.out = a.out ++ [.tx f] ∧
      ((∀ d, b.lastDelivered = some d → ¬(d.id = a.outboundId ∧ d.checksum = be16At f 8)) →
        ∃ b1 ackBytes rest, exec (.rxRead f) b = .next b1 ∧ b1.out = b.out ++ .deliver p :: .tx ackBytes :: rest ∧
          ∃ a2 rest', exec (.rxRead ackBytes) a1 = .next a2 ∧ a2.out = a1.out ++ .sendOk :: rest' ∧
            a2.pending = none ∧ a2.outboundId = flipBit a.outboundId ∧ a2.sendDone = l)
end

