-- ==== Sys2Proof/Laws/Codec.lean ====
section
/-! SUPPORT. The big-endian fields and the bytes of a frame: what is written is read back. -/

namespace Sys2Proof

/-! The bytes of a field -/

@[simp] theorem be16_length (v : U16) : (be16 v).length = 2 := rfl

@[simp] theorem be32_length (v : U32) : (be32 v).length = 4 := rfl

/-- The two bytes of a 16-bit field, joined, are the field. -/
theorem be16_join (v : U16) : (v.extractLsb' 8 8 ++ v.extractLsb' 0 8 : BitVec 16) = v := by
  apply BitVec.eq_of_getLsbD_eq
  intro i hi
  simp only [BitVec.getLsbD_append, BitVec.getLsbD_extractLsb']
  by_cases h : i < 8
  · simp [h]
  · have : i - 8 < 8 := by omega
    have h8 : 8 + (i - 8) = i := by omega
    simp [h, this, h8]

/-- The four bytes of a 32-bit field, joined, are the field. -/
theorem be32_join (v : U32) :
    (((v.extractLsb' 16 16).extractLsb' 8 8 ++ (v.extractLsb' 16 16).extractLsb' 0 8 : BitVec 16) ++
      ((v.extractLsb' 0 16).extractLsb' 8 8 ++ (v.extractLsb' 0 16).extractLsb' 0 8 : BitVec 16) : BitVec 32) = v := by
  rw [be16_join, be16_join]
  apply BitVec.eq_of_getLsbD_eq
  intro i hi
  simp only [BitVec.getLsbD_append, BitVec.getLsbD_extractLsb']
  by_cases h : i < 16
  · simp [h]
  · have : i - 16 < 16 := by omega
    have h8 : 16 + (i - 16) = i := by omega
    simp [h, this, h8]

/-- The high part of two joined bit vectors. -/
theorem high_append (n m : Nat) (a : BitVec n) (b : BitVec m) : (a ++ b).extractLsb' m n = a := by
  apply BitVec.eq_of_getLsbD_eq
  intro i hi
  have h : ¬ m + i < m := by omega
  simp [hi, BitVec.getLsbD_append, BitVec.getLsbD_eq_getElem]

/-- The low part of two joined bit vectors. -/
theorem low_append (n m : Nat) (a : BitVec n) (b : BitVec m) : (a ++ b).extractLsb' 0 m = b := by
  apply BitVec.eq_of_getLsbD_eq
  intro i hi
  simp [hi, BitVec.getLsbD_append, BitVec.getLsbD_eq_getElem]

/-- Two bytes written as a field are the two bytes. -/
theorem be16_append (a b : Byte) : be16 (a ++ b) = [a, b] := by
  have h1 : (a ++ b : BitVec 16).extractLsb' 8 8 = a := high_append 8 8 a b
  have h2 : (a ++ b : BitVec 16).extractLsb' 0 8 = b := low_append 8 8 a b
  rw [be16, h1, h2]

/-- A field read from two bytes and written gives the two bytes. -/
theorem be16_be16At (b : Bytes) (i : Nat) : be16 (be16At b i) = [byteAt b i, byteAt b (i + 1)] := be16_append _ _

/-- A field read from four bytes and written gives the four bytes. -/
theorem be32_be32At (b : Bytes) (i : Nat) :
    be32 (be32At b i) = [byteAt b i, byteAt b (i + 1), byteAt b (i + 2), byteAt b (i + 3)] := by
  have h1 : (be32At b i).extractLsb' 16 16 = be16At b i := high_append 16 16 _ _
  have h2 : (be32At b i).extractLsb' 0 16 = be16At b (i + 2) := low_append 16 16 _ _
  rw [be32, h1, h2, be16_be16At, be16_be16At]
  rfl

/-! The flags byte -/

theorem FrameType.ofBits_bits (t : FrameType) : FrameType.ofBits t.bits = t := by cases t <;> rfl

theorem FrameType.bits_ofBits (v : BitVec 3) : (FrameType.ofBits v).bits = v := by
  revert v; decide

theorem flagsByte_type (t : FrameType) (r : BitVec 5) : (flagsByte t r).extractLsb' 5 3 = t.bits := by
  revert r; cases t <;> decide

theorem flagsByte_reserved (t : FrameType) (r : BitVec 5) : (flagsByte t r).extractLsb' 0 5 = r := by
  revert r; cases t <;> decide

/-- A byte is its type bits and its reserved bits. -/
theorem flagsByte_split (v : Byte) :
    flagsByte (FrameType.ofBits (v.extractLsb' 5 3)) (v.extractLsb' 0 5) = v := by
  revert v; decide

/-! The bytes of a frame -/

@[simp] theorem headerBytes_length (t : FrameType) (h : Header) : (headerBytes t h).length = 15 := rfl

@[simp] theorem frameBytes_length (t : FrameType) (h : Header) (p : Bytes) :
    (frameBytes t h p).length = p.length + 15 := by
  simp [frameBytes, Nat.add_comm]

theorem frameBytes_payload (t : FrameType) (h : Header) (p : Bytes) : (frameBytes t h p).drop 15 = p := rfl

theorem frameBytes_flags (t : FrameType) (h : Header) (p : Bytes) :
    byteAt (frameBytes t h p) 14 = flagsByte t h.reserved := rfl

theorem frameBytes_type (t : FrameType) (h : Header) (p : Bytes) : frameTypeOf (frameBytes t h p) = t := by
  rw [frameTypeOf, frameBytes_flags, flagsByte_type, FrameType.ofBits_bits]

theorem frameBytes_checksum (t : FrameType) (h : Header) (p : Bytes) :
    be16At (frameBytes t h p) 8 = h.checksum := be16_join _

theorem frameBytes_lengthField (t : FrameType) (h : Header) (p : Bytes) :
    be16At (frameBytes t h p) 10 = h.length := be16_join _

theorem frameBytes_id (t : FrameType) (h : Header) (p : Bytes) : be16At (frameBytes t h p) 12 = h.id := be16_join _

theorem frameBytes_marker (t : FrameType) (h : Header) (p : Bytes) :
    (frameBytes t h p).take 8 = be32 h.sync1 ++ be32 h.sync2 := rfl

/-- The header fields of a frame's bytes are the ones written. -/
theorem headerOf_frameBytes (t : FrameType) (h : Header) (p : Bytes) : headerOf (frameBytes t h p) = h := by
  have h1 : be32At (frameBytes t h p) 0 = h.sync1 := be32_join _
  have h2 : be32At (frameBytes t h p) 4 = h.sync2 := be32_join _
  rw [headerOf, h1, h2, frameBytes_checksum, frameBytes_lengthField, frameBytes_id, frameBytes_flags,
    flagsByte_reserved]

/-- At least 15 bytes are fifteen bytes and a rest. -/
theorem exists_header_bytes {b : Bytes} (hb : 15 ≤ b.length) :
    ∃ h0 h1 h2 h3 h4 h5 h6 h7 h8 h9 h10 h11 h12 h13 h14 p,
      b = h0 :: h1 :: h2 :: h3 :: h4 :: h5 :: h6 :: h7 :: h8 :: h9 :: h10 :: h11 :: h12 :: h13 :: h14 :: p := by
  rcases b with _ | ⟨h0, _ | ⟨h1, _ | ⟨h2, _ | ⟨h3, _ | ⟨h4, _ | ⟨h5, _ | ⟨h6, _ | ⟨h7, _ | ⟨h8, _ | ⟨h9,
    _ | ⟨h10, _ | ⟨h11, _ | ⟨h12, _ | ⟨h13, _ | ⟨h14, p⟩⟩⟩⟩⟩⟩⟩⟩⟩⟩⟩⟩⟩⟩⟩
  all_goals first | exact ⟨_, _, _, _, _, _, _, _, _, _, _, _, _, _, _, _, rfl⟩ | (simp at hb)

/-- At least 15 bytes are the frame of their type, header and rest. -/
theorem frameBytes_of_bytes {b : Bytes} (hb : 15 ≤ b.length) :
    frameBytes (frameTypeOf b) (headerOf b) (b.drop 15) = b := by
  obtain ⟨h0, h1, h2, h3, h4, h5, h6, h7, h8, h9, h10, h11, h12, h13, h14, p, rfl⟩ := exists_header_bytes hb
  simp only [frameBytes, headerBytes, headerOf, frameTypeOf, be32_be32At, be16_be16At, flagsByte_split]
  rfl

/-- Equal 32-bit fields are equal as bytes and the other way round. -/
theorem be32_injective {v w : U32} (h : be32 v = be32 w) : v = w := by
  have := congrArg (fun b => be32At b 0) h
  exact (be32_join v).symm.trans (this.trans (be32_join w))

end Sys2Proof
end

