-- ==== Sys2Proof/Laws/Counter.lean ====
section
/-! SUPPORT. What the width of a counter gives: within its range a counter neither wraps nor is cut. -/

namespace Sys2Proof.Machine

theorem counterWidth_pos (limit : Nat) : 1 ≤ counterWidth limit := le_max_left _ _

/-- The width holds the range. -/
theorem lt_two_pow_counterWidth (limit : Nat) : limit < 2 ^ counterWidth limit :=
  Nat.lt_of_lt_of_le (Nat.lt_of_lt_of_le (Nat.lt_succ_self limit) (Nat.le_pow_clog Nat.one_lt_two _))
    (Nat.pow_le_pow_right Nat.two_pos (le_max_right _ _))

/-- A number of the range is written without loss. -/
theorem ofNat_counter {limit k : Nat} (h : k ≤ limit) : (BitVec.ofNat (counterWidth limit) k).toNat = k := by
  rw [BitVec.toNat_ofNat, Nat.mod_eq_of_lt (Nat.lt_of_le_of_lt h (lt_two_pow_counterWidth limit))]

@[simp] theorem fullCount_toNat (limit : Nat) : (fullCount limit).toNat = limit := ofNat_counter (Nat.le_refl _)

/-- One is the same number in every counter. -/
theorem counter_one_toNat (limit : Nat) : (1 : Counter limit).toNat = 1 := by
  have h : 1 < 2 ^ counterWidth limit := Nat.one_lt_two_pow (Nat.one_le_iff_ne_zero.1 (counterWidth_pos limit))
  show (BitVec.ofNat _ 1).toNat = 1
  rw [BitVec.toNat_ofNat, Nat.mod_eq_of_lt h]

/-- Counting up below the top of the range does not wrap. -/
theorem counter_succ_toNat {limit : Nat} {c : Counter limit} (h : c.toNat < limit) : (c + 1).toNat = c.toNat + 1 := by
  rw [BitVec.toNat_add, counter_one_toNat,
    Nat.mod_eq_of_lt (Nat.lt_of_le_of_lt h (lt_two_pow_counterWidth limit))]

/-- Counting down from a positive value does not wrap. -/
theorem counter_pred_toNat {limit : Nat} {c : Counter limit} (h : 1 ≤ c.toNat) : (c - 1).toNat = c.toNat - 1 := by
  rw [BitVec.toNat_sub_of_le (by rw [BitVec.le_def, counter_one_toNat]; exact h), counter_one_toNat]

/-- A counter is 1 when its number is. -/
theorem counter_eq_one_iff {limit : Nat} {c : Counter limit} : c = 1 ↔ c.toNat = 1 := by
  rw [← BitVec.toNat_inj, counter_one_toNat]

/-- A counter counted down to 0 stood at 1. -/
theorem counter_pred_eq_zero_iff {limit : Nat} {c : Counter limit} : c - 1 = 0 ↔ c = 1 := by
  rw [sub_eq_zero]

end Sys2Proof.Machine
end

