-- ==== Sys2Proof/Laws/State.lean ====
section
/-! SUPPORT. One lemma per field for each named update of the state, so that no later proof unfolds one. -/

namespace Sys2Proof.Machine

/-! `emit` -/

@[simp] theorem emit_cfg (s : State) (a : Action) : (s.emit a).cfg = s.cfg := rfl
@[simp] theorem emit_conn (s : State) (a : Action) : (s.emit a).conn = s.conn := rfl
@[simp] theorem emit_outboundId (s : State) (a : Action) : (s.emit a).outboundId = s.outboundId := rfl
@[simp] theorem emit_inboundId (s : State) (a : Action) : (s.emit a).inboundId = s.inboundId := rfl
@[simp] theorem emit_lastDelivered (s : State) (a : Action) : (s.emit a).lastDelivered = s.lastDelivered := rfl
@[simp] theorem emit_pending (s : State) (a : Action) : (s.emit a).pending = s.pending := rfl
@[simp] theorem emit_retryCount (s : State) (a : Action) : (s.emit a).retryCount = s.retryCount := rfl
@[simp] theorem emit_rtxTimer (s : State) (a : Action) : (s.emit a).rtxTimer = s.rtxTimer := rfl
@[simp] theorem emit_sendDone (s : State) (a : Action) : (s.emit a).sendDone = s.sendDone := rfl
@[simp] theorem emit_recvDone (s : State) (a : Action) : (s.emit a).recvDone = s.recvDone := rfl
@[simp] theorem emit_carry (s : State) (a : Action) : (s.emit a).carry = s.carry := rfl
@[simp] theorem emit_abortCause (s : State) (a : Action) : (s.emit a).abortCause = s.abortCause := rfl
@[simp] theorem emit_inbox (s : State) (a : Action) : (s.emit a).inbox = s.inbox := rfl
@[simp] theorem emit_out (s : State) (a : Action) : (s.emit a).out = s.out ++ [a] := rfl

/-! `abort` (R230) -/

@[simp] theorem abort_cfg (c : Code) (m : Bytes) (s : State) : (abort c m s).cfg = s.cfg := rfl
@[simp] theorem abort_conn (c : Code) (m : Bytes) (s : State) : (abort c m s).conn = .aborted := rfl
@[simp] theorem abort_outboundId (c : Code) (m : Bytes) (s : State) : (abort c m s).outboundId = s.outboundId := rfl
@[simp] theorem abort_inboundId (c : Code) (m : Bytes) (s : State) : (abort c m s).inboundId = s.inboundId := rfl
@[simp] theorem abort_lastDelivered (c : Code) (m : Bytes) (s : State) : (abort c m s).lastDelivered = s.lastDelivered := rfl
@[simp] theorem abort_pending (c : Code) (m : Bytes) (s : State) : (abort c m s).pending = none := rfl
@[simp] theorem abort_retryCount (c : Code) (m : Bytes) (s : State) : (abort c m s).retryCount = s.retryCount := rfl
@[simp] theorem abort_rtxTimer (c : Code) (m : Bytes) (s : State) : (abort c m s).rtxTimer = 0 := rfl
@[simp] theorem abort_sendDone (c : Code) (m : Bytes) (s : State) : (abort c m s).sendDone = s.sendDone := rfl
@[simp] theorem abort_recvDone (c : Code) (m : Bytes) (s : State) : (abort c m s).recvDone = s.recvDone := rfl
@[simp] theorem abort_carry (c : Code) (m : Bytes) (s : State) : (abort c m s).carry = s.carry := rfl
@[simp] theorem abort_abortCause (c : Code) (m : Bytes) (s : State) : (abort c m s).abortCause = c := rfl
@[simp] theorem abort_inbox (c : Code) (m : Bytes) (s : State) : (abort c m s).inbox = s.inbox := rfl
@[simp] theorem abort_out (c : Code) (m : Bytes) (s : State) : (abort c m s).out = s.out ++ [.aborted c m] := rfl

/-! `resetConnection` (R40) -/

@[simp] theorem resetConnection_cfg (s : State) : (resetConnection s).cfg = s.cfg := rfl
@[simp] theorem resetConnection_conn (s : State) : (resetConnection s).conn = .opened := rfl
@[simp] theorem resetConnection_outboundId (s : State) : (resetConnection s).outboundId = 0 := rfl
@[simp] theorem resetConnection_inboundId (s : State) : (resetConnection s).inboundId = 0 := rfl
@[simp] theorem resetConnection_lastDelivered (s : State) : (resetConnection s).lastDelivered = none := rfl
@[simp] theorem resetConnection_pending (s : State) : (resetConnection s).pending = none := rfl
@[simp] theorem resetConnection_retryCount (s : State) : (resetConnection s).retryCount = 0 := rfl
@[simp] theorem resetConnection_rtxTimer (s : State) : (resetConnection s).rtxTimer = 0 := rfl
@[simp] theorem resetConnection_sendDone (s : State) : (resetConnection s).sendDone = false := rfl
@[simp] theorem resetConnection_recvDone (s : State) : (resetConnection s).recvDone = false := rfl
@[simp] theorem resetConnection_carry (s : State) : (resetConnection s).carry = [] := rfl
@[simp] theorem resetConnection_abortCause (s : State) : (resetConnection s).abortCause = .none := rfl
@[simp] theorem resetConnection_inbox (s : State) : (resetConnection s).inbox = s.inbox := rfl
@[simp] theorem resetConnection_out (s : State) : (resetConnection s).out = s.out := rfl

/-! `clearCarry` -/

@[simp] theorem clearCarry_cfg (s : State) : (s.clearCarry).cfg = s.cfg := rfl
@[simp] theorem clearCarry_conn (s : State) : (s.clearCarry).conn = s.conn := rfl
@[simp] theorem clearCarry_outboundId (s : State) : (s.clearCarry).outboundId = s.outboundId := rfl
@[simp] theorem clearCarry_inboundId (s : State) : (s.clearCarry).inboundId = s.inboundId := rfl
@[simp] theorem clearCarry_lastDelivered (s : State) : (s.clearCarry).lastDelivered = s.lastDelivered := rfl
@[simp] theorem clearCarry_pending (s : State) : (s.clearCarry).pending = s.pending := rfl
@[simp] theorem clearCarry_retryCount (s : State) : (s.clearCarry).retryCount = s.retryCount := rfl
@[simp] theorem clearCarry_rtxTimer (s : State) : (s.clearCarry).rtxTimer = s.rtxTimer := rfl
@[simp] theorem clearCarry_sendDone (s : State) : (s.clearCarry).sendDone = s.sendDone := rfl
@[simp] theorem clearCarry_recvDone (s : State) : (s.clearCarry).recvDone = s.recvDone := rfl
@[simp] theorem clearCarry_carry (s : State) : (s.clearCarry).carry = [] := rfl
@[simp] theorem clearCarry_abortCause (s : State) : (s.clearCarry).abortCause = s.abortCause := rfl
@[simp] theorem clearCarry_inbox (s : State) : (s.clearCarry).inbox = s.inbox := rfl
@[simp] theorem clearCarry_out (s : State) : (s.clearCarry).out = s.out := rfl

/-! `retransmit` (R167) -/

@[simp] theorem retransmit_cfg (f : Bytes) (s : State) : (retransmit f s).cfg = s.cfg := rfl
@[simp] theorem retransmit_conn (f : Bytes) (s : State) : (retransmit f s).conn = s.conn := rfl
@[simp] theorem retransmit_outboundId (f : Bytes) (s : State) : (retransmit f s).outboundId = s.outboundId := rfl
@[simp] theorem retransmit_inboundId (f : Bytes) (s : State) : (retransmit f s).inboundId = s.inboundId := rfl
@[simp] theorem retransmit_lastDelivered (f : Bytes) (s : State) : (retransmit f s).lastDelivered = s.lastDelivered := rfl
@[simp] theorem retransmit_pending (f : Bytes) (s : State) : (retransmit f s).pending = s.pending := rfl
@[simp] theorem retransmit_retryCount (f : Bytes) (s : State) :
    (retransmit f s).retryCount = (s.retryCount + 1 : Counter s.cfg.retryLimit) := rfl
@[simp] theorem retransmit_rtxTimer (f : Bytes) (s : State) : (retransmit f s).rtxTimer = fullCount s.cfg.rtoTicks := rfl
@[simp] theorem retransmit_sendDone (f : Bytes) (s : State) : (retransmit f s).sendDone = s.sendDone := rfl
@[simp] theorem retransmit_recvDone (f : Bytes) (s : State) : (retransmit f s).recvDone = s.recvDone := rfl
@[simp] theorem retransmit_carry (f : Bytes) (s : State) : (retransmit f s).carry = s.carry := rfl
@[simp] theorem retransmit_abortCause (f : Bytes) (s : State) : (retransmit f s).abortCause = s.abortCause := rfl
@[simp] theorem retransmit_inbox (f : Bytes) (s : State) : (retransmit f s).inbox = s.inbox := rfl
@[simp] theorem retransmit_out (f : Bytes) (s : State) : (retransmit f s).out = s.out ++ [.tx f] := rfl

/-! `transmitNew` (R161) -/

@[simp] theorem transmitNew_cfg (f : Bytes) (s : State) : (transmitNew f s).cfg = s.cfg := rfl
@[simp] theorem transmitNew_conn (f : Bytes) (s : State) : (transmitNew f s).conn = s.conn := rfl
@[simp] theorem transmitNew_outboundId (f : Bytes) (s : State) : (transmitNew f s).outboundId = s.outboundId := rfl
@[simp] theorem transmitNew_inboundId (f : Bytes) (s : State) : (transmitNew f s).inboundId = s.inboundId := rfl
@[simp] theorem transmitNew_lastDelivered (f : Bytes) (s : State) : (transmitNew f s).lastDelivered = s.lastDelivered := rfl
@[simp] theorem transmitNew_pending (f : Bytes) (s : State) : (transmitNew f s).pending = some f := rfl
@[simp] theorem transmitNew_retryCount (f : Bytes) (s : State) : (transmitNew f s).retryCount = 0 := rfl
@[simp] theorem transmitNew_rtxTimer (f : Bytes) (s : State) : (transmitNew f s).rtxTimer = fullCount s.cfg.rtoTicks := rfl
@[simp] theorem transmitNew_sendDone (f : Bytes) (s : State) : (transmitNew f s).sendDone = s.sendDone := rfl
@[simp] theorem transmitNew_recvDone (f : Bytes) (s : State) : (transmitNew f s).recvDone = s.recvDone := rfl
@[simp] theorem transmitNew_carry (f : Bytes) (s : State) : (transmitNew f s).carry = s.carry := rfl
@[simp] theorem transmitNew_abortCause (f : Bytes) (s : State) : (transmitNew f s).abortCause = s.abortCause := rfl
@[simp] theorem transmitNew_inbox (f : Bytes) (s : State) : (transmitNew f s).inbox = s.inbox := rfl
@[simp] theorem transmitNew_out (f : Bytes) (s : State) : (transmitNew f s).out = s.out ++ [.tx f] := rfl

/-! `presentFirst` -/

@[simp] theorem presentFirst_cfg (i : PortItem) (s : State) : (presentFirst i s).cfg = s.cfg := rfl
@[simp] theorem presentFirst_conn (i : PortItem) (s : State) : (presentFirst i s).conn = s.conn := rfl
@[simp] theorem presentFirst_outboundId (i : PortItem) (s : State) : (presentFirst i s).outboundId = s.outboundId := rfl
@[simp] theorem presentFirst_inboundId (i : PortItem) (s : State) : (presentFirst i s).inboundId = s.inboundId := rfl
@[simp] theorem presentFirst_lastDelivered (i : PortItem) (s : State) : (presentFirst i s).lastDelivered = s.lastDelivered := rfl
@[simp] theorem presentFirst_pending (i : PortItem) (s : State) : (presentFirst i s).pending = s.pending := rfl
@[simp] theorem presentFirst_retryCount (i : PortItem) (s : State) : (presentFirst i s).retryCount = s.retryCount := rfl
@[simp] theorem presentFirst_rtxTimer (i : PortItem) (s : State) : (presentFirst i s).rtxTimer = s.rtxTimer := rfl
@[simp] theorem presentFirst_sendDone (i : PortItem) (s : State) : (presentFirst i s).sendDone = s.sendDone := rfl
@[simp] theorem presentFirst_recvDone (i : PortItem) (s : State) : (presentFirst i s).recvDone = s.recvDone := rfl
@[simp] theorem presentFirst_carry (i : PortItem) (s : State) : (presentFirst i s).carry = s.carry := rfl
@[simp] theorem presentFirst_abortCause (i : PortItem) (s : State) : (presentFirst i s).abortCause = s.abortCause := rfl
@[simp] theorem presentFirst_inbox (i : PortItem) (s : State) : (presentFirst i s).inbox = i :: s.inbox := rfl
@[simp] theorem presentFirst_out (i : PortItem) (s : State) : (presentFirst i s).out = s.out := rfl

end Sys2Proof.Machine
end

