-- ==== Sys2Proof/Laws/Ops.lean ====
section
/-! SUPPORT. For each shared operation, one lemma that says everything it can do; later proofs cite it instead of
unfolding the operation. -/

namespace Sys2Proof.Machine

/-! Resynchronizer -/

theorem scan_nil (m : Bytes) : scan m [] = none := rfl

/-- SCAN answers 0 on a buffer that begins with the marker pair. -/
theorem scan_of_prefix {m b : Bytes} (hm : b.take 8 = m) (hb : b ≠ []) : scan m b = some 0 := by
  cases b with
  | nil => exact absurd rfl hb
  | cons x xs => simp [scan, hm]

theorem lastSeven_length (b : Bytes) : (lastSeven b).length ≤ 7 := by
  simp [lastSeven]; omega

/-! Codec -/

@[simp] theorem mark_length (sync : U32) : (mark sync).length = 8 := rfl

/-- What it takes for DECODE to succeed, and what it then returns (R122). -/
theorem decodeFrame_ok {sync : U32} {b : Bytes} {f : Frame} (h : decodeFrame sync b = .ok f) :
    15 ≤ b.length ∧ b.take 8 = mark sync ∧ (be16At b 10).toNat = b.length - 15 ∧
      flagsIllegal (byteAt b 14) (be16At b 10) = false ∧ frameCsum b = be16At b 8 ∧
      f = { checksum := be16At b 8, length := be16At b 10, id := be16At b 12, flags := byteAt b 14,
            payload := b.drop 15 } := by
  unfold decodeFrame hdrLen at h
  split at h
  · cases h
  split at h
  · cases h
  split at h
  · cases h
  split at h
  · cases h
  split at h
  · cases h
  rename_i h1 h2 h3 h4 h5
  cases h
  exact ⟨by omega, by simpa using h2, by simpa using h3, by simpa using h4, by simpa using h5, rfl⟩

/-- The bytes of a frame decode when the checks pass (R122). -/
theorem decodeFrame_of_checks {sync : U32} {b : Bytes} (h1 : 15 ≤ b.length) (h2 : b.take 8 = mark sync)
    (h3 : (be16At b 10).toNat = b.length - 15) (h4 : flagsIllegal (byteAt b 14) (be16At b 10) = false)
    (h5 : frameCsum b = be16At b 8) :
    decodeFrame sync b = .ok
      { checksum := be16At b 8, length := be16At b 10, id := be16At b 12, flags := byteAt b 14,
        payload := b.drop 15 } := by
  have h1' : ¬ b.length < 15 := by omega
  simp [decodeFrame, hdrLen, h1', h2, h3, h4, h5]

/-! Closing and acknowledging -/

/-- `CLOSURE_CHECK` (R206) writes `conn` and nothing else, and emits `CLOSED` when it does. -/
theorem closureCheck_eq (s : State) :
    closureCheck s = { s with
      conn := if s.sendDone && s.recvDone then .closed else s.conn
      out := s.out ++ (if s.sendDone && s.recvDone then [.closed] else []) } := by
  unfold closureCheck
  split <;> simp [State.emit]

/-- `ACK_MATCH` (R198). -/
theorem ackMatch_eq (f : Bytes) (s : State) :
    ackMatch f s = { s with
      outboundId := flipBit s.outboundId
      retryCount := 0
      pending := none
      rtxTimer := 0
      sendDone := s.sendDone || endSet (byteAt f 14)
      conn := if (s.sendDone || endSet (byteAt f 14)) && s.recvDone then .closed else s.conn
      out := s.out ++ [.sendOk] ++ (if (s.sendDone || endSet (byteAt f 14)) && s.recvDone then [.closed] else []) } := by
  rw [ackMatch, closureCheck_eq]; rfl

/-- Case (b) (R197, R198): a match, or a stale acknowledgment. -/
theorem ackCase_cases (f : Frame) (s : State) :
    (∃ g, s.pending = some g ∧ f.id = idOfBit s.outboundId ∧ ackCase f s = ackMatch g s) ∨
      ((∀ g, s.pending = some g → f.id ≠ idOfBit s.outboundId) ∧ ackCase f s = s.emit (.log .staleAck)) := by
  unfold ackCase
  split
  · rename_i g hg
    split
    · exact .inl ⟨g, hg, ‹_›, rfl⟩
    · exact .inr ⟨fun _ _ => ‹_›, rfl⟩
  · rename_i hn
    exact .inr ⟨fun g hg => by simp [hn] at hg, rfl⟩

/-! Data frames -/

/-- The duplicate test (R199) as a proposition. -/
theorem isDuplicate_iff (f : Frame) (s : State) :
    isDuplicate f s = true ↔ ∃ d, s.lastDelivered = some d ∧ f.id = idOfBit d.id ∧ f.checksum = d.checksum := by
  unfold isDuplicate
  split <;> rename_i h <;> simp [h]

/-- `NEW_DATA` (R201). -/
theorem newData_eq (f : Frame) (isEnd : Bool) (s : State) :
    newData f isEnd s = { s with
      lastDelivered := some { id := f.id.setWidth 1, checksum := f.checksum }
      inboundId := flipBit s.inboundId
      recvDone := s.recvDone || isEnd
      conn := if s.sendDone && (s.recvDone || isEnd) then .closed else s.conn
      out := s.out ++ [.deliver f.payload, .tx (makeAck s.cfg.sync f.id)] ++
        (if s.sendDone && (s.recvDone || isEnd) then [.closed] else []) } := by
  rw [newData, closureCheck_eq]; simp [State.emit]

/-- The duplicate action (R200). -/
theorem reAck_eq (f : Frame) (s : State) :
    reAck f s = { s with out := s.out ++ [.log .duplicate, .tx (makeAck s.cfg.sync f.id)] } := by
  simp [reAck, State.emit]

/-- Cases (c) and (d) (R199 to R201). -/
theorem dataCase_cases (isEnd : Bool) (f : Frame) (s : State) :
    (isDuplicate f s = true ∧ dataCase isEnd f s = reAck f s) ∨
      (isDuplicate f s = false ∧ dataCase isEnd f s = newData f isEnd s) := by
  cases h : isDuplicate f s <;> simp [dataCase, h]

/-! Ids -/

/-- Step 0 (R195): which ids are refused. -/
theorem idRefused_eq_false {id : U16} {isRst : Bool} :
    idRefused id isRst = false ↔ id = 0 ∨ id = 1 ∨ (id = 0xFFFF ∧ isRst = true) := by
  unfold idRefused idTag idRst
  by_cases h0 : id = 0
  · simp [h0]
  by_cases h1 : id = 1
  · simp [h1]
  by_cases h2 : id = 0xFFFF
  · subst h2; cases isRst <;> simp
  · rw [if_neg h0, if_neg h1, if_neg h2]; exact ⟨fun h => by simp at h, fun h => by simp_all⟩

/-- Step 0 (R195). -/
theorem afterIdCheck_cases (isRst : Bool) (k : Frame → State → State) (f : Frame) (s : State) :
    (idRefused f.id isRst = true ∧ afterIdCheck isRst k f s = s.emit (.log .illegalId)) ∨
      (idRefused f.id isRst = false ∧ afterIdCheck isRst k f s = k f s) := by
  cases h : idRefused f.id isRst <;> simp [afterIdCheck, h]

/-! The tail of RX_READ -/

/-- A candidate received (R143, R145, R207): ignored, dropped with its error, or handed on with `carry` empty. -/
theorem receiveWith_cases (k : Frame → State → State) (cand : Bytes) (s : State) :
    (s.conn ≠ .opened ∧ receiveWith k cand s = s) ∨
      (s.conn = .opened ∧ ∃ e, decodeFrame s.cfg.sync cand = .error e ∧
        receiveWith k cand s = { s with carry := [], out := s.out ++ [.log e.code] }) ∨
      (s.conn = .opened ∧ ∃ f, decodeFrame s.cfg.sync cand = .ok f ∧
        receiveWith k cand s = k f { s with carry := [] }) := by
  by_cases ho : s.conn = .opened
  · right
    cases hd : decodeFrame s.cfg.sync cand with
    | error e => exact .inl ⟨ho, e, rfl, by simp [receiveWith, ho, hd, State.emit, State.clearCarry]⟩
    | ok f => exact .inr ⟨ho, f, rfl, by simp [receiveWith, ho, hd, State.clearCarry]⟩
  · exact .inl ⟨ho, by simp [receiveWith, ho]⟩

/-- CLASSIFY (R190): step 0, then the first of the cases `RST`, `ACK`, data. -/
theorem classify_cases (f : Frame) (s : State) :
    (idRefused f.id (rstSet f.flags) = true ∧ classify f s = s.emit (.log .illegalId)) ∨
      (idRefused f.id (rstSet f.flags) = false ∧ rstSet f.flags = true ∧ classify f s = abortRst f.payload s) ∨
      (idRefused f.id false = false ∧ rstSet f.flags = false ∧ ackSet f.flags = true ∧
        classify f s = ackCase f s) ∨
      (idRefused f.id false = false ∧ rstSet f.flags = false ∧ ackSet f.flags = false ∧
        classify f s = dataCase (endSet f.flags) f s) := by
  unfold classify
  cases hr : rstSet f.flags <;> cases hi : idRefused f.id false <;> cases hi' : idRefused f.id true <;>
    cases ha : ackSet f.flags <;> simp [afterIdCheck, hi, hi', hr, ha]

/-- The two illegal types (R91). -/
theorem rejectIllegalFlags_cases (h : Header) (p : Bytes) (s : State) :
    (s.conn ≠ .opened ∧ rejectIllegalFlags h p s = s) ∨
      (s.conn = .opened ∧ ∃ c : Code, (c = .invalidSync ∨ c = .lengthMismatch ∨ c = .invalidFlags) ∧
        rejectIllegalFlags h p s = { s with carry := [], out := s.out ++ [.log c] }) := by
  by_cases ho : s.conn = .opened
  · refine .inr ⟨ho, ?_⟩
    by_cases h1 : h.sync1 ≠ s.cfg.sync ∨ h.sync2 ≠ s.cfg.sync
    · exact ⟨_, .inl rfl, by simp [rejectIllegalFlags, ho, h1, State.emit, State.clearCarry]⟩
    by_cases h2 : h.length.toNat = p.length
    · exact ⟨_, .inr (.inr rfl), by simp [rejectIllegalFlags, ho, h1, h2, State.emit, State.clearCarry]⟩
    · exact ⟨_, .inr (.inl rfl), by simp [rejectIllegalFlags, ho, h1, h2, State.emit, State.clearCarry]⟩
  · exact .inl ⟨ho, by simp [rejectIllegalFlags, ho]⟩

/-! The events -/

/-- SEND (R161, R162): answered `SEND_ABORTED`, ignored, or accepted. -/
theorem execSend_cases (p : Bytes) (l : Bool) (s : State) :
    (s.conn = .aborted ∧ execSend p l s = .next (s.emit .sendAborted)) ∨
      (s.conn ≠ .aborted ∧ (s.sendReady = false ∨ s.cfg.maxPayload.toNat < p.length) ∧ execSend p l s = .next s) ∨
      (s.sendReady = true ∧ p.length ≤ s.cfg.maxPayload.toNat ∧
        execSend p l s = .next { s with
          pending := some (makeData s.cfg.sync p l s.outboundId), retryCount := 0, rtxTimer := fullCount s.cfg.rtoTicks,
          out := s.out ++ [.tx (makeData s.cfg.sync p l s.outboundId)] }) := by
  unfold execSend
  by_cases ha : s.conn = .aborted
  · exact .inl ⟨ha, by simp [ha]⟩
  right
  cases hr : s.sendReady
  · exact .inl ⟨ha, .inl rfl, by simp [ha]⟩
  by_cases hm : s.cfg.maxPayload.toNat < p.length
  · exact .inl ⟨ha, .inr hm, by simp [ha, hm]⟩
  · exact .inr ⟨rfl, by omega, by simp [ha, hm, State.emit, transmitNew]⟩

/-- RX_READ (R142 to R144): ignored, no marker pair, or a candidate. -/
theorem execRxRead_cases (c : Bytes) (s : State) :
    ((s.conn ≠ .opened ∨ c = []) ∧ execRxRead c s = .next s) ∨
      (s.conn = .opened ∧ c ≠ [] ∧ scan (mark s.cfg.sync) (s.carry ++ c) = none ∧
        execRxRead c s = .next
          { s with carry := lastSeven (s.carry ++ c), out := s.out ++ [.log .noSyncFound] }) ∨
      (s.conn = .opened ∧ c ≠ [] ∧ ∃ p, scan (mark s.cfg.sync) (s.carry ++ c) = some p ∧
        execRxRead c s = .next (receiveCandidate ((s.carry ++ c).drop p) s)) := by
  unfold execRxRead
  by_cases h : s.conn ≠ .opened ∨ c = []
  · exact .inl ⟨h, by simp [h]⟩
  · have h' := h
    push Not at h'
    right
    cases hs : scan (mark s.cfg.sync) (s.carry ++ c) with
    | none => exact .inl ⟨h'.1, h'.2, rfl, by simp [h, State.emit]⟩
    | some p => exact .inr ⟨h'.1, h'.2, p, rfl, by simp [h]⟩

/-- TICK (R165 to R168): nothing, a count down, a retransmission, or the abort. -/
theorem execTick_cases (s : State) :
    ((s.conn ≠ .opened ∨ s.pending = none) ∧ execTick s = .next s) ∨
      (∃ f, s.conn = .opened ∧ s.pending = some f ∧
        ((s.rtxTimer ≠ 1 ∧ execTick s = .next { s with rtxTimer := s.rtxTimer - 1 }) ∨
          (s.rtxTimer = 1 ∧ s.retryCount.toNat < s.cfg.retryLimit ∧ execTick s = .next
            { s with
              retryCount := s.retryCount + 1, rtxTimer := fullCount s.cfg.rtoTicks, out := s.out ++ [.tx f] }) ∨
          (s.rtxTimer = 1 ∧ s.cfg.retryLimit ≤ s.retryCount.toNat ∧ execTick s = .next
            { s with
              conn := .aborted, abortCause := .retryBudgetExhausted, pending := none, rtxTimer := 0,
              out := s.out ++ [.tx (makeRst s.cfg), .aborted .retryBudgetExhausted s.cfg.rstMsg] }))) := by
  unfold execTick
  by_cases ho : s.conn = .opened
  · cases hp : s.pending with
    | none => exact .inl ⟨.inr rfl, by simp⟩
    | some f =>
      refine .inr ⟨f, ho, rfl, ?_⟩
      by_cases ht : s.rtxTimer = 1
      · have h0 : s.rtxTimer - 1#_ = 0#_ := counter_pred_eq_zero_iff.2 ht
        right
        by_cases hr : s.retryCount.toNat < s.cfg.retryLimit
        · exact .inl ⟨ht, hr, by simp [ho, h0, hr, State.emit, retransmit, hp]⟩
        · exact .inr ⟨ht, by omega, by simp [ho, h0, hr, State.emit, abortRetry, abort]⟩
      · have h0 : s.rtxTimer - 1#_ ≠ 0#_ := fun h => ht (counter_pred_eq_zero_iff.1 h)
        exact .inl ⟨ht, by simp [ho, h0]⟩
  · exact .inl ⟨.inl ho, by simp [ho]⟩

/-! The port queue -/

theorem takeNext_nil {s : State} (h : s.inbox = []) : takeNext s = none := by simp [takeNext, h]

theorem takeNext_cons {s : State} {item : PortItem} {rest : List PortItem} (h : s.inbox = item :: rest) :
    takeNext s = some (item, { s with inbox := rest }) := by simp [takeNext, h]

end Sys2Proof.Machine
end

