-- ==== Sys2Proof/Laws/PerInstr.lean ====
section
/-! SUPPORT. The family `TableMatch`, one lemma for each instruction: the bits it is written with carry the fixed bits
of its row of the opcode table (30_encoding.md rules R86 and R95). -/

namespace Sys2Proof.Laws.TableMatch

/-- The fixed bits of the row: `flags & 0xE0` of a frame type (R86), `ev_kind` of an event (R95). -/
def matchValue : Instr → Nat
  | .data _ _ => 0x00
  | .dataEnd _ _ => 0x40
  | .ack _ _ => 0x80
  | .rst _ _ => 0x20
  | .rstEnd _ _ => 0x60
  | .rstAck _ _ => 0xA0
  | .illegalAckEnd _ _ => 0xC0
  | .illegalAckEndRst _ _ => 0xE0
  | .reset => 0
  | .send _ _ => 1
  | .rxRead _ => 2
  | .tick => 3

/-- The bits of a port item that select its row. -/
def fixedBits : PortItem → Nat
  | .frame b => (byteAt b 14 &&& 0xE0).toNat
  | .event k _ _ => k.toNat

/-- The instruction's own bits are those of its row. -/
def Statement (i : Instr) : Prop := fixedBits (encode i) = matchValue i

/-- Masking the flags byte leaves the type bits. -/
theorem masked (t : FrameType) (h : Header) (p : Bytes) :
    fixedBits (.frame (frameBytes t h p)) = 32 * t.bits.toNat := by
  rw [fixedBits, frameBytes_flags]
  generalize h.reserved = r
  cases t <;> revert r <;> decide

theorem data (h : Header) (p : Bytes) : Statement (.data h p) := masked .data h p
theorem dataEnd (h : Header) (p : Bytes) : Statement (.dataEnd h p) := masked .dataEnd h p
theorem ack (h : Header) (p : Bytes) : Statement (.ack h p) := masked .ack h p
theorem rst (h : Header) (p : Bytes) : Statement (.rst h p) := masked .rst h p
theorem rstEnd (h : Header) (p : Bytes) : Statement (.rstEnd h p) := masked .rstEnd h p
theorem rstAck (h : Header) (p : Bytes) : Statement (.rstAck h p) := masked .rstAck h p
theorem illegalAckEnd (h : Header) (p : Bytes) : Statement (.illegalAckEnd h p) := masked .illegalAckEnd h p
theorem illegalAckEndRst (h : Header) (p : Bytes) : Statement (.illegalAckEndRst h p) := masked .illegalAckEndRst h p
theorem reset : Statement .reset := rfl
theorem send (p : Bytes) (l : Bool) : Statement (.send p l) := rfl
theorem rxRead (c : Bytes) : Statement (.rxRead c) := rfl
theorem tick : Statement .tick := rfl

end Sys2Proof.Laws.TableMatch
end

