-- ==== Sys2Proof/Tests/Slice0.lean ====
section
/-! SUPPORT. Tests. The bytes and the expected results are those of the spec's vectors (95_test_vectors.md: F of section
2.2, DV of 2.3, SV of 2.4, T of 2.5, K of 2.6, Z of 2.7, P4 of section 3), named at each test; then one
witness for each statement that has hypotheses. -/

namespace Sys2Proof.Tests

open Sys2Proof.Machine

/-! ## Helpers -/

/-- A header under the vectors' marker. -/
def hdr (checksum length id : U16) (reserved : BitVec 5 := 0) : Header :=
  ⟨0xDCC023C2, 0xDCC023C2, checksum, length, id, reserved⟩

/-- The bytes of a frame under the vectors' marker, from its ninth byte on. -/
def wire (tail : Bytes) : Bytes := [0xdc, 0xc0, 0x23, 0xc2, 0xdc, 0xc0, 0x23, 0xc2] ++ tail

/-- F1, `DATA(0, "AB")`. -/
def f1 : Bytes := wire [0xbc, 0xb6, 0x00, 0x02, 0x00, 0x00, 0x00, 0x41, 0x42]
/-- F14, `ACK(0)`. -/
def f14 : Bytes := wire [0x7e, 0xf9, 0x00, 0x00, 0x00, 0x00, 0x80]
/-- F16, `MAKE_RST()` with the default `RST_MSG`. -/
def f16 : Bytes :=
  wire [0xfe, 0xa1, 0x00, 0x14, 0xff, 0xff, 0x20, 0x52, 0x65, 0x74, 0x72, 0x79, 0x42, 0x75, 0x64, 0x67, 0x65,
    0x74, 0x45, 0x78, 0x68, 0x61, 0x75, 0x73, 0x74, 0x65, 0x64]

/-- The next state of an instruction. -/
def after (i : Instr) (s : State) : State :=
  match exec i s with
  | .next t => t
  | .fault _ => s
  | .refused _ => s

/-- The next state of a step. -/
def stepped (s : State) : State :=
  match step s with
  | .next t => t
  | .fault _ => s
  | .refused _ => s

/-- The state S0 of the vectors. -/
def s0 : State := State.reset

/-- The state after T1: F1 is pending. -/
def t1 : State :=
  { s0 with pending := some f1, rtxTimer := 1, out := [.tx f1] }

/-- The state after T10's `SEND`: as `t1` with `RTO_TICKS` = 2, so that the timer stands at 2. -/
def twoTicks : State :=
  { s0 with cfg := { defaultCfg with rtoTicks := 2, rtoTicks_pos := by decide }, pending := some f1, rtxTimer := 2 }

/-- The state after K1: F1 has been delivered. -/
def k1 : State :=
  { s0 with inboundId := 1, lastDelivered := some ⟨0, 0xBCB6⟩, out := [.deliver [0x41, 0x42], .tx f14] }

/-- The state after T12: aborted on retry exhaustion. -/
def aborted : State := { s0 with conn := .aborted, abortCause := .retryBudgetExhausted }

/-- The state at the end of P1 for block A: closed. -/
def closed : State :=
  { s0 with conn := .closed, inboundId := 1, lastDelivered := some ⟨0, 0xBEF9⟩, sendDone := true, recvDone := true }

/-! ## WellFormed smoke: one ill-formed term for each check -/

theorem test_wf_markers_differ : (Instr.data ⟨1, 2, 0, 0, 0, 0⟩ []).wellFormed = false := by decide
theorem test_wf_length_differs : (Instr.dataEnd (hdr 0 3 0) [0x41]).wellFormed = false := by decide
theorem test_wf_data_id : (Instr.data (hdr 0 0 0xFFFF) []).wellFormed = false := by decide
theorem test_wf_data_end_id : (Instr.dataEnd (hdr 0 0 7) []).wellFormed = false := by decide
theorem test_wf_ack_id : (Instr.ack (hdr 0 0 2) []).wellFormed = false := by decide
theorem test_wf_ack_payload : (Instr.ack (hdr 0 1 0) [0x78]).wellFormed = false := by decide
theorem test_wf_rst_id : (Instr.rst (hdr 0 0 7) []).wellFormed = false := by decide
theorem test_wf_rst_end_id : (Instr.rstEnd (hdr 0 0 2) []).wellFormed = false := by decide
theorem test_wf_rst_ack_id : (Instr.rstAck (hdr 0 0 0xFFFE) []).wellFormed = false := by decide
theorem test_wf_rst_ack_payload : (Instr.rstAck (hdr 0 1 0xFFFF) [0x78]).wellFormed = false := by decide
theorem test_wf_ack_end : (Instr.illegalAckEnd (hdr 0 0 0) []).wellFormed = false := by decide
theorem test_wf_ack_end_rst : (Instr.illegalAckEndRst (hdr 0 0 0) []).wellFormed = false := by decide
theorem test_wf_send_too_long : (Instr.send (List.replicate 65536 0) false).wellFormed = false := by
  rw [Instr.wellFormed, List.length_replicate]; rfl
theorem test_wf_read_empty : (Instr.rxRead []).wellFormed = false := by decide
theorem test_wf_good_frames :
    (Instr.data (hdr 0xBCB6 2 0) [0x41, 0x42]).wellFormed = true ∧ (Instr.ack (hdr 0x7EF9 0 0) []).wellFormed = true ∧
      (Instr.rst (hdr 0x652F 3 0xFFFF) [0x62, 0x79, 0x65]).wellFormed = true := by decide

/-! ## Decoding: words written out from 30_encoding.md rules R81, R86 and R95 -/

/-- F1. -/
theorem test_decode_data : decode (.frame f1) = .ok (.data (hdr 0xBCB6 2 0) [0x41, 0x42]) := by rfl
/-- F10, `DATA_END(1, "B")`. -/
theorem test_decode_data_end :
    decode (.frame (wire [0xbe, 0xb5, 0x00, 0x01, 0x00, 0x01, 0x40, 0x42])) =
      .ok (.dataEnd (hdr 0xBEB5 1 1) [0x42]) := by rfl
/-- F22, `ACK(0)` with the reserved bits set. -/
theorem test_decode_ack :
    decode (.frame (wire [0x5f, 0xf9, 0x00, 0x00, 0x00, 0x00, 0x9f])) = .ok (.ack (hdr 0x5FF9 0 0 0x1F) []) := by rfl
/-- F17, `RST("bye")`. -/
theorem test_decode_rst :
    decode (.frame (wire [0x65, 0x2f, 0x00, 0x03, 0xff, 0xff, 0x20, 0x62, 0x79, 0x65])) =
      .ok (.rst (hdr 0x652F 3 0xFFFF) [0x62, 0x79, 0x65]) := by rfl
/-- F24. -/
theorem test_decode_rst_end :
    decode (.frame (wire [0x9e, 0x93, 0x00, 0x01, 0xff, 0xff, 0x60, 0x65])) =
      .ok (.rstEnd (hdr 0x9E93 1 0xFFFF) [0x65]) := by rfl
/-- F23. -/
theorem test_decode_rst_ack :
    decode (.frame (wire [0x5e, 0xf9, 0x00, 0x00, 0xff, 0xff, 0xa0])) = .ok (.rstAck (hdr 0x5EF9 0 0xFFFF) []) := by
  rfl
/-- F18. -/
theorem test_decode_illegal_ack_end :
    decode (.frame (wire [0x3e, 0xf9, 0x00, 0x00, 0x00, 0x00, 0xc0])) = .ok (.illegalAckEnd (hdr 0x3EF9 0 0) []) := by
  rfl
/-- F19. -/
theorem test_decode_illegal_ack_end_rst :
    decode (.frame (wire [0x1e, 0xf9, 0x00, 0x00, 0x00, 0x00, 0xe0])) = .ok (.illegalAckEndRst (hdr 0x1EF9 0 0) []) := by
  rfl
/-- R95. -/
theorem test_decode_reset : decode (.event 0b00 [] false) = .ok .reset := by rfl
/-- R95. -/
theorem test_decode_send : decode (.event 0b01 [0x41, 0x42] true) = .ok (.send [0x41, 0x42] true) := by rfl
/-- R95. -/
theorem test_decode_rx_read : decode (.event 0b10 [0x42] false) = .ok (.rxRead [0x42]) := by rfl
/-- R95. -/
theorem test_decode_tick : decode (.event 0b11 [] false) = .ok .tick := by rfl
/-- R123: 14 bytes are no header. -/
theorem test_decode_short : decode (.frame (f1.take 14)) = .error .frameTooShort := by rfl
/-- F1's header as the table's 120-bit number, its payload bytes zero. -/
theorem test_decode_table_data :
    decodeTableWord 120 0xDCC023C2DCC023C2BCB60002000000 = some (.data (hdr 0xBCB6 2 0) [0, 0]) := by rfl
/-- F1 encoded (R121). -/
theorem test_encode_data : encode (.data (hdr 0xBCB6 2 0) [0x41, 0x42]) = .frame f1 := by rfl

/-! ## The primitives -/

/-- V11 and V16: an odd length, and the second fold at work. -/
theorem test_csum16 :
    csum16 [0x12, 0x34, 0x56] = 0x97CB ∧ csum16 [0xff, 0xff, 0xff, 0xff, 0x00, 0x01] = 0xFFFE := by decide
/-- F1 and F16, from their operands. -/
theorem test_encode_frame :
    encodeFrame 0xDCC023C2 [0x41, 0x42] 0 0x00 = f1 ∧ makeRst defaultCfg = f16 := by decide
/-- DV18: the checksum field is compared, so 0xFFFF is not 0x0000. -/
theorem test_decode_frame_compares :
    decodeFrame 0xDCC023C2 (wire [0xff, 0xff, 0x00, 0x02, 0x00, 0x00, 0x00, 0xf7, 0xfe]) =
      .error .checksumMismatch := by rfl
/-- SV4, SV7, SV2 and SV10. -/
theorem test_scan :
    scan (mark 0xDCC023C2) ([0x99] ++ wire [0x00]) = some 1 ∧
      scan (mark 0xDCC023C2) (wire [0xdc, 0xc0, 0x23, 0xc2]) = some 0 ∧
      scan (mark 0xDCC023C2) [0xdc, 0xc0, 0x23, 0xc2, 0xdc, 0xc0, 0x23] = none ∧
      scan (mark 0) (List.replicate 9 0) = some 0 := by decide
/-- The length of `RST_MSG` against `MAX_PAYLOAD` (U20). -/
theorem test_configuration : defaultCfg.legal = true ∧ (Cfg.configure? 0 1 16 4 defaultRstMsg).isNone = true ∧
    (Cfg.configure? 0 0 16 65535 []).isNone = true := by decide

/-! ## One step of each instruction -/

/-- K1. -/
theorem test_data_new : after (.data (hdr 0xBCB6 2 0) [0x41, 0x42]) s0 = k1 := by decide
/-- K11: the same id and another checksum is new. -/
theorem test_data_same_id :
    (after (.data (hdr 0xBAB4 2 0) [0x43, 0x44]) k1).out = k1.out ++ [.deliver [0x43, 0x44], .tx f14] := by decide
/-- K23. -/
theorem test_data_end : (after (.dataEnd (hdr 0xBEB5 1 1) [0x42]) s0).recvDone = true ∧
    (after (.dataEnd (hdr 0xBEB5 1 1) [0x42]) s0).conn = .opened := by decide
/-- P1 line 8: the second done flag closes the connection. -/
theorem test_data_end_closes : after (.dataEnd (hdr 0xBEF9 0 0) []) { s0 with sendDone := true } =
    { closed with out := [.deliver [], .tx f14, .closed] } := by decide
/-- K14. -/
theorem test_ack_matches :
    after (.ack (hdr 0x7EF9 0 0) []) t1 = { s0 with outboundId := 1, out := [.tx f1, .sendOk] } := by decide
/-- K13. -/
theorem test_ack_stale : after (.ack (hdr 0x7EF8 0 1) []) t1 = t1.emit (.log .staleAck) := by decide
/-- P5 line 2. -/
theorem test_rst : after (.rst (hdr 0x652F 3 0xFFFF) [0x62, 0x79, 0x65]) t1 =
    { s0 with
      conn := .aborted, abortCause := .rstReceived,
      out := [.tx f1, .aborted .rstReceived [0x62, 0x79, 0x65]] } := by decide
/-- K22: a corrupt `RST` does not abort. -/
theorem test_rst_corrupt : after (.rst (hdr 0x652E 3 0xFFFF) [0x62, 0x79, 0x65]) s0 =
    s0.emit (.log .checksumMismatch) := by decide
/-- K21. -/
theorem test_rst_end : (after (.rstEnd (hdr 0x9E93 1 0xFFFF) [0x65]) s0).out = [.aborted .rstReceived [0x65]] := by
  decide
/-- K20. -/
theorem test_rst_ack : (after (.rstAck (hdr 0x5EF9 0 0xFFFF) []) s0).conn = .aborted := by decide
/-- DV11: the flags are checked before the checksum. -/
theorem test_illegal_ack_end : after (.illegalAckEnd (hdr 0 0 0) []) s0 = s0.emit (.log .invalidFlags) := by decide
/-- DV13. -/
theorem test_illegal_ack_end_rst :
    after (.illegalAckEndRst (hdr 0x1EF9 0 0) []) s0 = s0.emit (.log .invalidFlags) := by decide
/-- Z1. -/
theorem test_reset : after .reset aborted = s0 := by decide
/-- T1. -/
theorem test_send : after (.send [0x41, 0x42] false) s0 = t1 := by decide
/-- P3 line 10. -/
theorem test_send_aborted : after (.send [0x78] false) aborted = aborted.emit .sendAborted := by decide
/-- P4(d), the second read: the marker pair is completed from the kept bytes. -/
theorem test_rx_read : after (.rxRead (f1.drop 4)) { s0 with carry := [0xaa, 0xbb, 0xcc, 0xdc, 0xc0, 0x23, 0xc2] } =
    k1 := by decide
/-- P4(e), the second read. -/
theorem test_rx_read_no_marker :
    (after (.rxRead [4, 5, 6, 7, 8, 9]) { s0 with carry := [1, 2, 3] }).carry = [3, 4, 5, 6, 7, 8, 9] := by decide
/-- T9 and T10. -/
theorem test_tick : after .tick t1 = { t1 with retryCount := 1, out := [.tx f1, .tx f1] } ∧
    after .tick twoTicks = { twoTicks with rtxTimer := 1 } := by decide
/-- T15, the seventeenth tick. -/
theorem test_tick_aborts : after .tick { t1 with retryCount := 16 } =
    { aborted with retryCount := 16, out := [.tx f1, .tx f16, .aborted .retryBudgetExhausted defaultRstMsg] } := by
  decide
/-- The first instruction after reset runs (T1's empty form). -/
theorem test_step_runs_the_fetch_word :
    stepped (s0.withFetchWord 8 1) = after (.send [] false) s0 ∧
      (stepped (s0.withFetchWord 120 0xDCC023C2DCC023C27EF90000000080)).out = [.log .staleAck] := by decide

/-! ## Witnesses: states and operands that meet all the hypotheses of each statement

A hypothesis `exec i s = .next t` is met by every instruction and state (`exec_after`), so a witness names only the
others. -/

/-- Every instruction answers a next state. -/
theorem exec_after (i : Instr) (s : State) : exec i s = .next (after i s) := by cases i <;> rfl

/-- Every state has a next state. -/
theorem step_stepped (s : State) : step s = .next (stepped s) := by
  rw [stepped, step]
  split
  · rfl
  · split
    · rw [exec_after]
    · rfl

theorem t1_inv : BlockInv t1 where
  pendingHolds f h := by cases h; exact ⟨rfl, rfl, rfl, by decide, by decide⟩
  timerStopped := by decide
  retryBound := by decide
  carryShort := by decide
  carryMarkFree := by decide
  sendDoneIdle := by decide
  closedIff := by decide
  causeIff := by decide

theorem intact_data : FrameIntact 0xDCC023C2 .data (hdr 0xBCB6 2 0) [0x41, 0x42] :=
  ⟨rfl, rfl, rfl, rfl, by decide⟩
/-- F9. -/
theorem intact_data_end : FrameIntact 0xDCC023C2 .dataEnd (hdr 0x4504 3 0) [0x78, 0x79, 0x7a] :=
  ⟨rfl, rfl, rfl, rfl, by decide⟩
theorem intact_ack : FrameIntact 0xDCC023C2 .ack (hdr 0x7EF9 0 0) [] := ⟨rfl, rfl, rfl, rfl, by decide⟩
theorem intact_ack1 : FrameIntact 0xDCC023C2 .ack (hdr 0x7EF8 0 1) [] := ⟨rfl, rfl, rfl, rfl, by decide⟩

theorem witness_EncodeOfDecodedFrameIsTheBytes : 15 ≤ f14.length ∧ f14.length = 15 := by decide
theorem witness_StepRunsTheDecodedInstruction :
    ({ t1 with inbox := [.event 3 [] false] } : State).inbox = .event 3 [] false :: [] ∧
      decode (.event 3 [] false) = .ok .tick := ⟨rfl, rfl⟩
theorem witness_StepWithoutAnInstruction :
    s0.inbox = [] ∧ ({ s0 with inbox := [.frame (f1.take 14)] } : State).inbox = .frame (f1.take 14) :: [] ∧
      (f1.take 14).length < 15 ∧ s0.conn = .opened := by decide
theorem witness_InvariantsHoldAfterEveryStep : BlockInv { t1 with inbox := [.event 3 [] false] } :=
  ⟨t1_inv.pendingHolds, t1_inv.timerStopped, t1_inv.retryBound, t1_inv.carryShort, t1_inv.carryMarkFree,
    t1_inv.sendDoneIdle, t1_inv.closedIff, t1_inv.causeIff⟩
theorem witness_InvariantsHoldAtReset : exec .reset aborted = .next s0 := rfl
theorem witness_ConfigurationAndPastOutputsNeverChange : step t1 = .next (stepped t1) := step_stepped _
theorem witness_ActionsOfOneEventAreOrdered : exec .tick t1 = .next (after .tick t1) := exec_after _ _
theorem witness_OnlyTheFourFrameKindsAreTransmitted : PendingIsData t1 :=
  fun f h => by cases h; exact ⟨[0x41, 0x42], false, by decide, by decide⟩
theorem witness_TransmittedFramesDecode :
    EmittedKind defaultCfg f1 ∧ EmittedKind defaultCfg f14 ∧ EmittedKind defaultCfg f16 :=
  ⟨.inl ⟨[0x41, 0x42], false, 0, by decide, by decide⟩, .inr (.inl ⟨0, by decide⟩), .inr (.inr (by decide))⟩
theorem witness_OneOutstandingFrame : t1.conn = .opened ∧ t1.pending = some f1 := by decide
theorem witness_InboundIdIsNeverConsulted :
    exec (.data (hdr 0xBCB6 2 0) [0x41, 0x42]) s0 = .next (after (.data (hdr 0xBCB6 2 0) [0x41, 0x42]) s0) :=
  exec_after _ _
/-- Both ways in, the second as a frame instruction and as a read. -/
theorem witness_ExactlyTwoWaysIntoAborted :
    t1.conn ≠ .aborted ∧ (after .tick { t1 with retryCount := 16 }).conn = .aborted ∧
      (after (.rst (hdr 0x652F 3 0xFFFF) [0x62, 0x79, 0x65]) t1).conn = .aborted ∧
      (after (.rxRead (0x99 :: wire [0x65, 0x2f, 0, 3, 0xff, 0xff, 0x20, 0x62, 0x79, 0x65])) t1).conn = .aborted := by
  decide
/-- Both outcomes, in both terminal states. -/
theorem witness_TerminalStatesAbsorb :
    aborted.conn ≠ .opened ∧ closed.conn ≠ .opened ∧ Instr.send [] true ≠ .reset ∧ Instr.tick ≠ .reset := by decide
theorem witness_ResetCreatesTheConnection : closed.conn ≠ .opened ∧ Instr.tick ≠ .reset := by decide
/-- Closing (P1 line 8), and both aborts. -/
theorem witness_StatusRegistersShowHowTheConnectionEnded :
    BlockInv t1 ∧ BlockInv { s0 with sendDone := true } ∧ t1.conn = .opened ∧
      (after (.dataEnd (hdr 0xBEF9 0 0) []) { s0 with sendDone := true }).conn = .closed ∧
      (after .tick { t1 with retryCount := 16 }).conn = .aborted ∧
      (after (.rst (hdr 0x652F 3 0xFFFF) [0x62, 0x79, 0x65]) t1).conn = .aborted :=
  ⟨t1_inv, ⟨(by intro f h; cases h), by decide, by decide, by decide, by decide, by decide, by decide, by decide⟩,
    by decide⟩
/-- The three premises, each at a boundary: below the limit, at 1, and a width that is just enough. -/
theorem witness_CountersHaveTheLeastWidthThatHoldsTheirRange :
    15 < 2 ^ 4 ∧ ({ t1 with retryCount := 15 } : State).retryCount.toNat < t1.cfg.retryLimit ∧
      1 ≤ t1.rtxTimer.toNat := by decide
theorem witness_StatusRegistersAfterReset : exec .reset closed = .next s0 := rfl
/-- The largest operand (V21's length), and an all-zero one. -/
theorem witness_ChecksumClosedForm :
    (List.replicate 131072 (0xFF : Byte)).length ≤ 131072 ∧ ([] : Bytes).length ≤ 131072 := by
  rw [List.length_replicate]; decide
theorem witness_ChecksumOfAllOnesAndZero : ([0xff, 0xff] : Bytes).length ≤ 131072 ∧ ([0, 0] : Bytes).length ≤ 131072 := by
  decide
theorem witness_EndAroundAccumulatorIsExact : (List.replicate 65536 ((0xFF, 0xFF) : Byte × Byte)).length ≤ 65536 := by
  rw [List.length_replicate]
theorem witness_ChecksumIgnoresWordOrderAndOnes :
    ([(0x12, 0x34), (0x56, 0x00)] : List (Byte × Byte)).length ≤ 65535 ∧
      List.Perm ([(0x12, 0x34), (0x56, 0x00)] : List (Byte × Byte)) [(0x56, 0x00), (0x12, 0x34)] ∧
      0 < wordSum [0x12, 0x34, 0x56, 0x00] := by decide
theorem witness_FrameChecksumIgnoresItsField : (f1.take 8).length = 8 := by decide
theorem witness_FrameCodecRoundTrip :
    (([] : Bytes).length ≤ 65535 ∧ (ackSet 0x9F = true → endSet 0x9F = false ∧ ([] : Bytes) = [])) ∧
      decodeFrame 0xDCC023C2 f1 = .ok ⟨0xBCB6, 2, 0, 0, [0x41, 0x42]⟩ := ⟨by decide, rfl⟩
/-- DV2, DV5, DV7, DV10, DV12, DV14 and F1: one input for each clause. -/
theorem witness_DecodeReportsTheFirstFailedCheck :
    (f1.take 14).length < 15 ∧ (0x5c :: f1.drop 1).take 8 ≠ mark 0xDCC023C2 ∧
      (f1.take 8 = mark 0xDCC023C2 ∧ (be16At (f1 ++ [0]) 10).toNat ≠ (f1 ++ [0]).length - 15) ∧
      (byteAt (wire [0x3e, 0xf9, 0, 0, 0, 0, 0xc0]) 14).getLsbD 7 = true ∧
      (byteAt (wire [0x3e, 0xf9, 0, 0, 0, 0, 0xc0]) 14).getLsbD 6 = true ∧
      (wire [0x7e, 0x80, 0, 1, 0, 0, 0x80, 0x78]).length ≠ 15 ∧
      frameCsum (wire [0xbc, 0xb7, 0, 2, 0, 0, 0, 0x41, 0x42]) ≠ be16At (wire [0xbc, 0xb7, 0, 2, 0, 0, 0, 0x41, 0x42]) 8 ∧
      frameCsum f1 = be16At f1 8 := by decide
/-- The first and the last bit of F1, and the bit of F1 that gives `InvalidFlags`. -/
theorem witness_OneChangedBitNeverDecodes :
    decodeFrame 0xDCC023C2 f1 = .ok ⟨0xBCB6, 2, 0, 0, [0x41, 0x42]⟩ ∧ 0 < f1.length ∧ 16 < f1.length ∧
      flipError f1 14 7 = .invalidFlags ∧ flipError f1 0 7 = .invalidSync := ⟨rfl, by decide⟩
theorem witness_FrameNotEndingAtTheReadIsRefused :
    decodeFrame 0xDCC023C2 f1 = .ok ⟨0xBCB6, 2, 0, 0, [0x41, 0x42]⟩ ∧ ([0] : Bytes) ≠ [] ∧ 15 ≤ 15 ∧ 15 < f1.length ∧
      16 < f1.length := ⟨rfl, by decide⟩
theorem witness_SevenKeptBytesAreEnough : scan (mark 0xDCC023C2) (f1.take 7) = none := by decide
theorem witness_ReadIsIgnoredWhenNotOpenOrEmpty : closed.conn ≠ .opened ∧ (([] : Bytes) = []) := by decide
theorem witness_ReadWithoutMarkerKeepsItsTail :
    s0.conn = .opened ∧ f1.take 7 ≠ [] ∧ scan (mark s0.cfg.sync) (s0.carry ++ f1.take 7) = none := by decide
theorem witness_ReadThatDoesNotDecodeIsDropped :
    s0.conn = .opened ∧ f1 ++ f1 ≠ [] ∧ scan (mark s0.cfg.sync) (s0.carry ++ (f1 ++ f1)) = some 0 ∧
      decodeFrame s0.cfg.sync ((s0.carry ++ (f1 ++ f1)).drop 0) = .error .lengthMismatch :=
  ⟨rfl, by decide, by decide, rfl⟩
theorem witness_ReadRunsTheFrameItFinds :
    s0.conn = .opened ∧ 0x99 :: f1 ≠ [] ∧ scan (mark s0.cfg.sync) (s0.carry ++ 0x99 :: f1) = some 1 ∧
      decode (.frame ((s0.carry ++ 0x99 :: f1).drop 1)) = .ok (.data (hdr 0xBCB6 2 0) [0x41, 0x42]) :=
  ⟨rfl, by decide, by decide, rfl⟩
theorem witness_RecoverableErrorsChangeOnlyCarry :
    (after (.rxRead f14) s0).out = s0.out ++ [.log .staleAck] ∧ Action.log .staleAck ∈ [Action.log .staleAck] ∧
      Code.staleAck.recoverable = true := by decide
theorem witness_ReadNeverReportsInvalidSync :
    (after (.rxRead (0x5c :: f1.drop 1)) s0).out = s0.out ++ [.log .noSyncFound] := by decide
/-- Without and with `END`. -/
theorem witness_NewDataFrameIsDeliveredAndAcknowledged :
    s0.conn = .opened ∧ FrameIntact s0.cfg.sync .data (hdr 0xBCB6 2 0) [0x41, 0x42] ∧
      FrameIntact s0.cfg.sync .dataEnd (hdr 0x4504 3 0) [0x78, 0x79, 0x7a] ∧
      ¬SameAsLast s0 (hdr 0xBCB6 2 0) ∧ ¬SameAsLast k1 (hdr 0x4504 3 0) :=
  ⟨rfl, intact_data, intact_data_end, (by rintro ⟨d, h, _⟩; cases h), (by rintro ⟨d, h, _, h2⟩; cases h; revert h2; decide)⟩
theorem witness_DuplicateDataFrameIsAcknowledgedAgain :
    k1.conn = .opened ∧ FrameIntact k1.cfg.sync .data (hdr 0xBCB6 2 0) [0x41, 0x42] ∧
      SameAsLast k1 (hdr 0xBCB6 2 0) := ⟨rfl, intact_data, ⟨0, 0xBCB6⟩, rfl, rfl, rfl⟩
theorem witness_DeliveredFrameIsNotDeliveredAgain :
    s0.conn = .opened ∧ FrameIntact s0.cfg.sync .data (hdr 0xBCB6 2 0) [0x41, 0x42] ∧
      (after (.data (hdr 0xBCB6 2 0) [0x41, 0x42]) s0).conn = .opened := ⟨rfl, intact_data, by decide⟩
theorem witness_MatchingAckEndsTheSend :
    t1.conn = .opened ∧ FrameIntact t1.cfg.sync .ack (hdr 0x7EF9 0 0) [] ∧ t1.pending = some f1 ∧
      (hdr 0x7EF9 0 0).id = idOfBit t1.outboundId := ⟨rfl, intact_ack, rfl, rfl⟩
/-- Nothing pending, and another sequence bit. -/
theorem witness_StaleAckIsIgnored :
    FrameIntact s0.cfg.sync .ack (hdr 0x7EF9 0 0) [] ∧ s0.pending = none ∧
      FrameIntact t1.cfg.sync .ack (hdr 0x7EF8 0 1) [] ∧ (hdr 0x7EF8 0 1).id ≠ idOfBit t1.outboundId :=
  ⟨intact_ack, rfl, intact_ack1, by decide⟩
/-- F17, F24 and F23. -/
theorem witness_ReceivedRstAborts :
    FrameIntact t1.cfg.sync .rst (hdr 0x652F 3 0xFFFF) [0x62, 0x79, 0x65] ∧
      FrameIntact t1.cfg.sync .rstEnd (hdr 0x9E93 1 0xFFFF) [0x65] ∧
      FrameIntact t1.cfg.sync .rstAck (hdr 0x5EF9 0 0xFFFF) [] :=
  ⟨⟨rfl, rfl, rfl, rfl, by decide⟩, ⟨rfl, rfl, rfl, rfl, by decide⟩, ⟨rfl, rfl, rfl, rfl, by decide⟩⟩
/-- F28, F29 and F27: the sentinel on a data frame, and the illegal ids 2 and 7. -/
theorem witness_IllegalIdIsDiscarded :
    FrameIntact s0.cfg.sync .data (hdr 0xBCB6 2 0xFFFF) [0x41, 0x42] ∧
      FrameIntact s0.cfg.sync .ack (hdr 0x7EF7 0 2) [] ∧ FrameIntact s0.cfg.sync .data (hdr 0xBCAF 2 7) [0x41, 0x42] :=
  ⟨⟨rfl, rfl, rfl, rfl, by decide⟩, ⟨rfl, rfl, rfl, rfl, by decide⟩, ⟨rfl, rfl, rfl, rfl, by decide⟩⟩
/-- F20's header: `ACK` with a payload. -/
theorem witness_IllegalFlagsAreDiscarded :
    s0.conn = .opened ∧ (hdr 0x7E80 1 0).sync1 = s0.cfg.sync ∧ (hdr 0x7E80 1 0).sync2 = s0.cfg.sync ∧
      (hdr 0x7E80 1 0).length.toNat = ([0x78] : Bytes).length ∧ ([0x78] : Bytes) ≠ [] := by decide
theorem witness_FrameThatFailsACheckIsDropped :
    decodeFrame s0.cfg.sync (frameBytes .data (hdr 0xBCB7 2 0) [0x41, 0x42]) = .error .checksumMismatch := by rfl
/-- A payload of just `MAX_PAYLOAD` bytes (T5). -/
theorem witness_AcceptedSendTransmitsAndArms :
    let s : State := { s0 with cfg := { defaultCfg with maxPayload := 4 } }
    s.conn = .opened ∧ s.pending = none ∧ s.sendDone = false ∧
      ([0x68, 0x65, 0x6c, 0x6c] : Bytes).length ≤ s.cfg.maxPayload.toNat := by decide
/-- Each reason not to accept: aborted, closed (T7), pending (T3), too long (T4). -/
theorem witness_RefusedSendChangesNothing :
    aborted.conn = .aborted ∧ closed.conn = .closed ∧ t1.pending ≠ none ∧ closed.sendDone = true ∧
      ({ defaultCfg with maxPayload := 4 } : Cfg).maxPayload.toNat <
        ([0x68, 0x65, 0x6c, 0x6c, 0x6f] : Bytes).length := by decide
theorem witness_SendReadyTellsAcceptance :
    s0.sendReady = true ∧ t1.sendReady = false ∧ ([0x41, 0x42] : Bytes).length ≤ s0.cfg.maxPayload.toNat := by decide
theorem witness_TickWithNothingPendingDoesNothing : s0.pending = none ∧ closed.conn ≠ .opened := by decide
/-- T10 and T9. -/
theorem witness_TickCountsDownAndRetransmits :
    t1.conn = .opened ∧ t1.pending = some f1 ∧ 1 < twoTicks.rtxTimer.toNat ∧ t1.rtxTimer = 1 ∧
      t1.retryCount.toNat < t1.cfg.retryLimit := by decide
theorem witness_TickWithBudgetSpentAborts :
    let s : State := { t1 with retryCount := 16 }
    s.conn = .opened ∧ s.pending = some f1 ∧ s.rtxTimer = 1 ∧ s.retryCount.toNat = s.cfg.retryLimit := by decide
theorem witness_ExpiryAndAckInEitherOrder :
    t1.conn = .opened ∧ FrameIntact t1.cfg.sync .ack (hdr 0x7EF9 0 0) [] ∧ t1.pending = some f1 ∧
      (hdr 0x7EF9 0 0).id = idOfBit t1.outboundId ∧ t1.rtxTimer = 1 ∧ t1.retryCount.toNat < t1.cfg.retryLimit :=
  ⟨rfl, intact_ack, rfl, rfl, rfl, by decide⟩
/-- T15, up to the last retransmission. -/
theorem witness_UnacknowledgedFrameEndsInAbort :
    s0.conn = .opened ∧ s0.pending = none ∧ (after (.send [0x41, 0x42] false) s0).pending = some f1 ∧
      16 ≤ t1.cfg.retryLimit ∧ 0 < t1.cfg.rtoTicks := by decide
/-- Two blocks in S0. -/
theorem witness_OneRoundDeliversThePayload :
    s0.cfg.sync = s0.cfg.sync ∧ s0.carry = [] ∧ s0.conn = .opened ∧ s0.sendReady = true ∧
      ([0x41, 0x42] : Bytes).length ≤ s0.cfg.maxPayload.toNat ∧ exec (.send [0x41, 0x42] false) s0 = .next t1 ∧
      ∀ d, s0.lastDelivered = some d → ¬(d.id = s0.outboundId ∧ d.checksum = be16At f1 8) :=
  ⟨rfl, rfl, rfl, by decide, by decide, rfl, by intro d h; cases h⟩

end Sys2Proof.Tests
end

section
/-! Proofs for the statements on 00_scope.md: what a step is in each of its cases (R8), and that every step keeps the
configuration and the actions emitted before (R5, R62, R64). -/

namespace Sys2Proof.Machine

/-! ## The cases of a step -/

/-- With nothing presented the block takes no event (R248). -/
theorem step_of_inbox_nil {s : State} (h : s.inbox = []) : step s = .next s := by
  simp [step, takeNext_nil h]

/-- An item that is an instruction is executed on the state without it (R8). -/
theorem step_of_decode_ok {s : State} {item : PortItem} {rest : List PortItem} {i : Instr}
    (h : s.inbox = item :: rest) (hd : decode item = .ok i) : step s = exec i { s with inbox := rest } := by
  simp [step, takeNext_cons h, hd]

/-- An item that is no instruction is discarded (R123). -/
theorem step_of_decode_error {s : State} {item : PortItem} {rest : List PortItem} {e : DecodeReject}
    (h : s.inbox = item :: rest) (hd : decode item = .error e) :
    step s = .next (discardItem item { s with inbox := rest }) := by
  simp [step, takeNext_cons h, hd]

/-- Settles O4: it is the decoded case of a step. -/
theorem stepRunsTheDecodedInstruction : Obligations.StepRunsTheDecodedInstruction :=
  fun _ _ _ _ hbox hdec => step_of_decode_ok hbox hdec

/-! ## The configuration and the past outputs

`Extends s t` is what O9 says of a step. It is a preorder, so it is shown once for each shared operation and composed. -/

/-- `t` has the configuration of `s`, and its emitted actions begin with those of `s`. -/
structure Extends (s t : State) : Prop where
  cfg_eq : t.cfg = s.cfg
  out_prefix : s.out <+: t.out

theorem Extends.refl (s : State) : Extends s s := ⟨rfl, List.prefix_refl _⟩

theorem Extends.trans {s t u : State} (hst : Extends s t) (htu : Extends t u) : Extends s u :=
  ⟨htu.cfg_eq.trans hst.cfg_eq, hst.out_prefix.trans htu.out_prefix⟩

/-- The form in which the laws give a next state: the configuration kept, some actions appended. -/
theorem Extends.of_append {s t : State} {acts : List Action} (hcfg : t.cfg = s.cfg) (hout : t.out = s.out ++ acts) :
    Extends s t :=
  ⟨hcfg, hout ▸ List.prefix_append _ _⟩

theorem extends_emit (s : State) (a : Action) : Extends s (s.emit a) := .of_append rfl (emit_out s a)

theorem extends_clearCarry (s : State) : Extends s s.clearCarry := ⟨rfl, List.prefix_refl _⟩

theorem extends_resetConnection (s : State) : Extends s (resetConnection s) := ⟨rfl, List.prefix_refl _⟩

theorem extends_abortRst (msg : Bytes) (s : State) : Extends s (abortRst msg s) := .of_append rfl (abort_out _ _ _)

theorem extends_ackMatch (f : Bytes) (s : State) : Extends s (ackMatch f s) := by
  rw [ackMatch_eq]
  exact .of_append rfl (List.append_assoc _ _ _)

theorem extends_newData (f : Frame) (isEnd : Bool) (s : State) : Extends s (newData f isEnd s) := by
  rw [newData_eq]
  exact .of_append rfl (List.append_assoc _ _ _)

theorem extends_reAck (f : Frame) (s : State) : Extends s (reAck f s) := by
  rw [reAck_eq]
  exact .of_append rfl rfl

theorem extends_ackCase (f : Frame) (s : State) : Extends s (ackCase f s) := by
  obtain ⟨g, -, -, heq⟩ | ⟨-, heq⟩ := ackCase_cases f s <;> rw [heq]
  · exact extends_ackMatch g s
  · exact extends_emit s _

theorem extends_dataCase (isEnd : Bool) (f : Frame) (s : State) : Extends s (dataCase isEnd f s) := by
  obtain ⟨-, heq⟩ | ⟨-, heq⟩ := dataCase_cases isEnd f s <;> rw [heq]
  · exact extends_reAck f s
  · exact extends_newData f isEnd s

theorem extends_afterIdCheck {isRst : Bool} {k : Frame → State → State} (hk : ∀ f s, Extends s (k f s))
    (f : Frame) (s : State) : Extends s (afterIdCheck isRst k f s) := by
  obtain ⟨-, heq⟩ | ⟨-, heq⟩ := afterIdCheck_cases isRst k f s <;> rw [heq]
  · exact extends_emit s _
  · exact hk f s

theorem extends_classify (f : Frame) (s : State) : Extends s (classify f s) := by
  obtain ⟨-, heq⟩ | ⟨-, -, heq⟩ | ⟨-, -, -, heq⟩ | ⟨-, -, -, heq⟩ := classify_cases f s <;> rw [heq]
  · exact extends_emit s _
  · exact extends_abortRst f.payload s
  · exact extends_ackCase f s
  · exact extends_dataCase _ f s

theorem extends_receiveWith {k : Frame → State → State} (hk : ∀ f s, Extends s (k f s)) (cand : Bytes) (s : State) :
    Extends s (receiveWith k cand s) := by
  obtain ⟨-, heq⟩ | ⟨-, e, -, heq⟩ | ⟨-, f, -, heq⟩ := receiveWith_cases k cand s <;> rw [heq]
  · exact .refl s
  · exact .of_append rfl rfl
  · exact (extends_clearCarry s).trans (hk f _)

theorem extends_receiveCandidate (cand : Bytes) (s : State) : Extends s (receiveCandidate cand s) :=
  extends_receiveWith extends_classify cand s

theorem extends_rejectIllegalFlags (h : Header) (p : Bytes) (s : State) : Extends s (rejectIllegalFlags h p s) := by
  obtain ⟨-, heq⟩ | ⟨-, c, -, heq⟩ := rejectIllegalFlags_cases h p s <;> rw [heq]
  · exact .refl s
  · exact .of_append rfl rfl

theorem extends_discardItem (item : PortItem) (s : State) : Extends s (discardItem item s) := by
  cases item with
  | frame b => exact extends_receiveCandidate b s
  | event => exact .refl s

/-! An instruction's meaning is an outcome; each lemma below speaks of the next state it answers. -/

theorem extends_execSend {p : Bytes} {l : Bool} {s t : State} (h : execSend p l s = .next t) : Extends s t := by
  obtain ⟨-, heq⟩ | ⟨-, -, heq⟩ | ⟨-, -, heq⟩ := execSend_cases p l s <;> cases heq.symm.trans h
  · exact extends_emit s _
  · exact .refl s
  · exact .of_append rfl rfl

theorem extends_execRxRead {c : Bytes} {s t : State} (h : execRxRead c s = .next t) : Extends s t := by
  obtain ⟨-, heq⟩ | ⟨-, -, -, heq⟩ | ⟨-, -, p, -, heq⟩ := execRxRead_cases c s <;> cases heq.symm.trans h
  · exact .refl s
  · exact .of_append rfl rfl
  · exact extends_receiveCandidate _ s

theorem extends_execTick {s t : State} (h : execTick s = .next t) : Extends s t := by
  obtain ⟨-, heq⟩ | ⟨f, -, -, ⟨-, heq⟩ | ⟨-, -, heq⟩ | ⟨-, -, heq⟩⟩ := execTick_cases s <;> cases heq.symm.trans h
  · exact .refl s
  · exact ⟨rfl, List.prefix_refl _⟩
  · exact .of_append rfl rfl
  · exact .of_append rfl rfl

theorem extends_exec {i : Instr} {s t : State} (h : exec i s = .next t) : Extends s t := by
  cases i with
  | data hd p | dataEnd hd p =>
    cases h
    exact extends_receiveWith (extends_afterIdCheck (extends_dataCase _)) _ s
  | ack hd p =>
    cases h
    exact extends_receiveWith (extends_afterIdCheck extends_ackCase) _ s
  | rst hd p | rstEnd hd p | rstAck hd p =>
    cases h
    exact extends_receiveWith (extends_afterIdCheck fun f => extends_abortRst f.payload) _ s
  | illegalAckEnd hd p | illegalAckEndRst hd p =>
    cases h
    exact extends_rejectIllegalFlags hd p s
  | reset =>
    cases h
    exact extends_resetConnection s
  | send p l => exact extends_execSend h
  | rxRead c => exact extends_execRxRead h
  | tick => exact extends_execTick h

/-- Taking an item off the queue touches neither field. -/
theorem extends_inbox (s : State) (rest : List PortItem) : Extends s { s with inbox := rest } :=
  ⟨rfl, List.prefix_refl _⟩

theorem extends_step {s t : State} (h : step s = .next t) : Extends s t := by
  cases hbox : s.inbox with
  | nil =>
    cases (step_of_inbox_nil hbox).symm.trans h
    exact .refl s
  | cons item rest =>
    cases hdec : decode item with
    | ok i => exact (extends_inbox s rest).trans (extends_exec ((step_of_decode_ok hbox hdec).symm.trans h))
    | error e =>
      cases (step_of_decode_error hbox hdec).symm.trans h
      exact (extends_inbox s rest).trans (extends_discardItem item _)

/-- Settles O9, by the cases of a step and `Extends` for each of the operations it calls. -/
theorem configurationAndPastOutputsNeverChange : Obligations.ConfigurationAndPastOutputsNeverChange :=
  fun _ _ h => ⟨(extends_step h).cfg_eq, (extends_step h).out_prefix⟩

end Sys2Proof.Machine
end

section
/-! Proofs for the statements on 10_state.md: what one instruction can do to the state, and from it the invariants of
R32 (section 2), the status registers (section 3) and RESET (section 4). -/

namespace Sys2Proof.Machine

/-! ## What an instruction can do

`Received` lists what a frame taken from the channel can do to an open connection, and `Effect` what any instruction can
do to any state. The statements below are read off these two lists. -/

/-- Whatever the frame, an open connection answers it with one of five operations (R190). -/
inductive Received (s : State) : State → Prop
  | logged (c : Code) : Received s (s.emit (.log c))
  | aborted (msg : Bytes) : Received s (abortRst msg s)
  | acked (g : Bytes) : s.pending = some g → Received s (ackMatch g s)
  | duplicate (f : Frame) : Received s (reAck f s)
  | delivered (f : Frame) (isEnd : Bool) : Received s (newData f isEnd s)

theorem received_ackCase (f : Frame) (s : State) : Received s (ackCase f s) := by
  obtain ⟨g, hpend, -, heq⟩ | ⟨-, heq⟩ := ackCase_cases f s <;> rw [heq]
  · exact .acked g hpend
  · exact .logged _

theorem received_dataCase (isEnd : Bool) (f : Frame) (s : State) : Received s (dataCase isEnd f s) := by
  obtain ⟨-, heq⟩ | ⟨-, heq⟩ := dataCase_cases isEnd f s <;> rw [heq]
  · exact .duplicate f
  · exact .delivered f isEnd

theorem received_afterIdCheck {isRst : Bool} {k : Frame → State → State} (hk : ∀ f s, Received s (k f s))
    (f : Frame) (s : State) : Received s (afterIdCheck isRst k f s) := by
  obtain ⟨-, heq⟩ | ⟨-, heq⟩ := afterIdCheck_cases isRst k f s <;> rw [heq]
  · exact .logged _
  · exact hk f s

theorem received_classify (f : Frame) (s : State) : Received s (classify f s) := by
  obtain ⟨-, heq⟩ | ⟨-, -, heq⟩ | ⟨-, -, -, heq⟩ | ⟨-, -, -, heq⟩ := classify_cases f s <;> rw [heq]
  · exact .logged _
  · exact .aborted _
  · exact received_ackCase f s
  · exact received_dataCase _ f s

/-- A terminal state takes no frame (R207); an open connection empties `carry` first (R143). -/
theorem receiveWith_received {k : Frame → State → State} (hk : ∀ f s, Received s (k f s)) (cand : Bytes) (s : State) :
    receiveWith k cand s = s ∨ s.conn = .opened ∧ Received s.clearCarry (receiveWith k cand s) := by
  obtain ⟨-, heq⟩ | ⟨hopen, e, -, heq⟩ | ⟨hopen, f, -, heq⟩ := receiveWith_cases k cand s <;> rw [heq]
  · exact .inl rfl
  · exact .inr ⟨hopen, .logged _⟩
  · exact .inr ⟨hopen, hk f _⟩

theorem receiveCandidate_received (cand : Bytes) (s : State) :
    receiveCandidate cand s = s ∨ s.conn = .opened ∧ Received s.clearCarry (receiveCandidate cand s) :=
  receiveWith_received received_classify cand s

theorem rejectIllegalFlags_received (h : Header) (p : Bytes) (s : State) :
    rejectIllegalFlags h p s = s ∨ s.conn = .opened ∧ Received s.clearCarry (rejectIllegalFlags h p s) := by
  obtain ⟨-, heq⟩ | ⟨hopen, c, -, heq⟩ := rejectIllegalFlags_cases h p s <;> rw [heq]
  · exact .inl rfl
  · exact .inr ⟨hopen, .logged _⟩

/-- Everything an instruction can do, each case with the condition under which it is done. -/
inductive Effect (s : State) : Instr → State → Prop
  | reset : Effect s .reset (resetConnection s)
  | ignored {i : Instr} : i ≠ .reset → Effect s i s
  | sendAborted (p : Bytes) (l : Bool) : s.conn = .aborted → Effect s (.send p l) (s.emit .sendAborted)
  | sent (p : Bytes) (l : Bool) : s.sendReady = true → p.length ≤ s.cfg.maxPayload.toNat →
      Effect s (.send p l) (transmitNew (makeData s.cfg.sync p l s.outboundId) s)
  | received {i : Instr} {t : State} : i ≠ .tick → s.conn = .opened → Received s.clearCarry t → Effect s i t
  | noMarker (c : Bytes) : s.conn = .opened → scan (mark s.cfg.sync) (s.carry ++ c) = none →
      Effect s (.rxRead c) { s with carry := lastSeven (s.carry ++ c), out := s.out ++ [.log .noSyncFound] }
  | countedDown (f : Bytes) : s.conn = .opened → s.pending = some f → s.rtxTimer ≠ 1 →
      Effect s .tick { s with rtxTimer := s.rtxTimer - 1 }
  | retransmitted (f : Bytes) : s.conn = .opened → s.pending = some f → s.rtxTimer = 1 →
      s.retryCount.toNat < s.cfg.retryLimit → Effect s .tick (retransmit f s)
  | budgetSpent (f : Bytes) : s.conn = .opened → s.pending = some f → s.rtxTimer = 1 →
      s.cfg.retryLimit ≤ s.retryCount.toNat →
      Effect s .tick
        { s with
          conn := .aborted, abortCause := .retryBudgetExhausted, pending := none, rtxTimer := 0,
          out := s.out ++ [.tx (makeRst s.cfg), .aborted .retryBudgetExhausted s.cfg.rstMsg] }

/-- A frame that an instruction takes from the channel is ignored or received. -/
theorem Effect.of_received {i : Instr} {s t : State} (hreset : i ≠ .reset) (htick : i ≠ .tick)
    (h : t = s ∨ s.conn = .opened ∧ Received s.clearCarry t) : Effect s i t := by
  obtain rfl | ⟨hopen, hrec⟩ := h
  · exact .ignored hreset
  · exact .received htick hopen hrec

theorem effect_execSend {p : Bytes} {l : Bool} {s t : State} (h : execSend p l s = .next t) :
    Effect s (.send p l) t := by
  obtain ⟨hab, heq⟩ | ⟨-, -, heq⟩ | ⟨hready, hlen, heq⟩ := execSend_cases p l s <;> cases heq.symm.trans h
  · exact .sendAborted p l hab
  · exact .ignored nofun
  · exact .sent p l hready hlen

theorem effect_execRxRead {c : Bytes} {s t : State} (h : execRxRead c s = .next t) : Effect s (.rxRead c) t := by
  obtain ⟨-, heq⟩ | ⟨hopen, -, hscan, heq⟩ | ⟨-, -, p, -, heq⟩ := execRxRead_cases c s <;> cases heq.symm.trans h
  · exact .ignored nofun
  · exact .noMarker c hopen hscan
  · exact .of_received nofun nofun (receiveCandidate_received _ s)

theorem effect_execTick {s t : State} (h : execTick s = .next t) : Effect s .tick t := by
  obtain ⟨-, heq⟩ | ⟨f, hopen, hpend, ⟨hone, heq⟩ | ⟨hone, hretry, heq⟩ | ⟨hone, hspent, heq⟩⟩ :=
      execTick_cases s <;>
    cases heq.symm.trans h
  · exact .ignored nofun
  · exact .countedDown f hopen hpend hone
  · exact .retransmitted f hopen hpend hone hretry
  · exact .budgetSpent f hopen hpend hone hspent

/-- The inversion of `exec`. -/
theorem effect_of_exec {i : Instr} {s t : State} (h : exec i s = .next t) : Effect s i t := by
  cases i with
  | data hd p | dataEnd hd p =>
    cases h
    exact .of_received nofun nofun (receiveWith_received (received_afterIdCheck (received_dataCase _)) _ s)
  | ack hd p =>
    cases h
    exact .of_received nofun nofun (receiveWith_received (received_afterIdCheck received_ackCase) _ s)
  | rst hd p | rstEnd hd p | rstAck hd p =>
    cases h
    exact .of_received nofun nofun (receiveWith_received (received_afterIdCheck fun _ _ => .aborted _) _ s)
  | illegalAckEnd hd p | illegalAckEndRst hd p =>
    cases h
    exact .of_received nofun nofun (rejectIllegalFlags_received hd p s)
  | reset =>
    cases h
    exact .reset
  | send p l => exact effect_execSend h
  | rxRead c => exact effect_execRxRead h
  | tick => exact effect_execTick h

/-- `send_ready` (R33) as a proposition. -/
theorem sendReady_iff (s : State) :
    s.sendReady = true ↔ s.conn = .opened ∧ s.pending = none ∧ s.sendDone = false := by
  simp [State.sendReady, State.pendingValid, and_assoc]

/-- A terminal state takes no event but RESET (R207); a SEND may be answered `SEND_ABORTED` (R162). -/
theorem Effect.of_terminal {i : Instr} {s t : State} (h : Effect s i t) (hterm : s.conn ≠ .opened) (hi : i ≠ .reset) :
    t = s ∨ t = s.emit .sendAborted := by
  cases h with
  | reset => exact absurd rfl hi
  | ignored => exact .inl rfl
  | sendAborted => exact .inr rfl
  | sent p l hready => exact absurd ((sendReady_iff s).1 hready).1 hterm
  | received _ hopen | noMarker _ hopen | countedDown _ hopen | retransmitted _ hopen | budgetSpent _ hopen =>
    exact absurd hopen hterm

/-! ## The invariants of R32

Each operation keeps `BlockInv`, under the condition that `Effect` gives for it. -/

/-- The kept bytes hold no marker pair when the bytes they are the tail of hold none. -/
theorem scan_drop_eq_none {m b : Bytes} (h : scan m b = none) (n : Nat) : scan m (b.drop n) = none := by
  induction b generalizing n with
  | nil => rw [List.drop_nil]; exact h
  | cons x xs ih =>
    cases n with
    | zero => exact h
    | succ n =>
      refine ih ?_ n
      by_cases hx : (x :: xs).take 8 = m
      · rw [scan, if_pos hx] at h; cases h
      · rwa [scan, if_neg hx, Option.map_eq_none_iff] at h

/-- No rule reads what was emitted or what is presented: the invariants do not depend on either. -/
theorem BlockInv.queues {s : State} (h : BlockInv s) (inbox : List PortItem) (out : List Action) :
    BlockInv { s with inbox := inbox, out := out } :=
  { h with pendingHolds := h.pendingHolds }

theorem BlockInv.emit {s : State} (h : BlockInv s) (a : Action) : BlockInv (s.emit a) := h.queues _ _

/-- Kept bytes that are short and hold no marker pair can replace `carry` (R32(d)). -/
theorem BlockInv.keep {s : State} (h : BlockInv s) {carry : Bytes} (hshort : carry.length ≤ 7)
    (hfree : scan (mark s.cfg.sync) carry = none) : BlockInv { s with carry := carry } :=
  { h with pendingHolds := h.pendingHolds, carryShort := hshort, carryMarkFree := hfree }

theorem BlockInv.clearCarry {s : State} (h : BlockInv s) : BlockInv s.clearCarry := h.keep (Nat.zero_le _) (scan_nil _)

/-- An open connection has not both done flags set (R32(f)). -/
theorem BlockInv.not_both_done {s : State} (h : BlockInv s) (hopen : s.conn = .opened) :
    ¬(s.sendDone = true ∧ s.recvDone = true) := by
  rw [← h.closedIff, hopen]; nofun

/-- A connection that is not aborted has no cause (R32(g)). -/
theorem BlockInv.cause_none {s : State} (h : BlockInv s) (hconn : s.conn ≠ .aborted) : s.abortCause = .none :=
  not_not.1 (mt h.causeIff.1 hconn)

/-- Both abort sequences (R230). -/
theorem BlockInv.abort {s : State} (h : BlockInv s) (hopen : s.conn = .opened) {cause : Code} (hcause : cause ≠ .none)
    (out : List Action) :
    BlockInv { s with conn := .aborted, abortCause := cause, pending := none, rtxTimer := 0, out := out } where
  pendingHolds _ hf := nomatch hf
  timerStopped _ := rfl
  retryBound := h.retryBound
  carryShort := h.carryShort
  carryMarkFree := h.carryMarkFree
  sendDoneIdle _ := rfl
  closedIff := ⟨nofun, fun hdone => absurd hdone (h.not_both_done hopen)⟩
  causeIff := ⟨fun _ => rfl, fun _ => hcause⟩

/-- Closing exactly when both flags are set keeps R32(f) on an open connection. -/
theorem closed_iff_of_opened {c : Conn} (hopen : c = .opened) (a b : Bool) :
    (if a && b then Conn.closed else c) = .closed ↔ a = true ∧ b = true := by
  subst hopen
  cases a <;> cases b <;> simp

/-- Closing never gives or takes the state Aborted (R206). -/
theorem ite_closed_ne_aborted {c : Conn} (hopen : c = .opened) (b : Bool) :
    (if b then Conn.closed else c) ≠ .aborted := by
  subst hopen
  cases b <;> simp

/-- Closing an open connection, or not, keeps R32(g). -/
theorem BlockInv.causeIff_of_closing {s : State} (h : BlockInv s) (hopen : s.conn = .opened) (b : Bool) :
    s.abortCause ≠ .none ↔ (if b then Conn.closed else s.conn) = .aborted :=
  iff_of_false (not_not.2 (h.cause_none (by simp [hopen]))) (ite_closed_ne_aborted hopen b)

/-- A matching acknowledgment (R198). -/
theorem BlockInv.ackMatch {s : State} (h : BlockInv s) (hopen : s.conn = .opened) (g : Bytes) :
    BlockInv (ackMatch g s) := by
  rw [ackMatch_eq]
  exact {
    pendingHolds := fun _ hf => nomatch hf
    timerStopped := fun _ => rfl
    retryBound := Nat.zero_le _
    carryShort := h.carryShort
    carryMarkFree := h.carryMarkFree
    sendDoneIdle := fun _ => rfl
    closedIff := closed_iff_of_opened hopen _ _
    causeIff := h.causeIff_of_closing hopen _ }

/-- A new data frame (R201). It closes the connection only after the last SEND was acknowledged, so a pending frame
keeps it open (R32(e)). -/
theorem BlockInv.newData {s : State} (h : BlockInv s) (hopen : s.conn = .opened) (f : Frame) (isEnd : Bool) :
    BlockInv (newData f isEnd s) := by
  have hstay : ∀ g, s.pending = some g → s.sendDone = false := fun g hg =>
    Bool.eq_false_iff.2 fun hdone => nomatch (h.sendDoneIdle hdone).symm.trans hg
  rw [newData_eq]
  exact { h with
    pendingHolds := fun g hg => by
      obtain ⟨-, hid, hflags, htimer⟩ := h.pendingHolds g hg
      exact ⟨by simp [hstay g hg, hopen], hid, hflags, htimer⟩
    closedIff := closed_iff_of_opened hopen _ _
    causeIff := h.causeIff_of_closing hopen _ }

theorem BlockInv.received {s t : State} (h : BlockInv s) (hopen : s.conn = .opened) (hrec : Received s t) :
    BlockInv t := by
  cases hrec with
  | logged c => exact h.emit _
  | aborted msg => exact h.abort (cause := .rstReceived) hopen nofun _
  | acked g => exact h.ackMatch hopen g
  | duplicate f => exact (h.emit _).emit _
  | delivered f isEnd => exact h.newData hopen f isEnd

/-- RESET gives the invariants, whatever the state before (R40). -/
theorem blockInv_resetConnection (s : State) : BlockInv (resetConnection s) where
  pendingHolds _ hf := nomatch hf
  timerStopped _ := rfl
  retryBound := Nat.zero_le _
  carryShort := Nat.zero_le _
  carryMarkFree := scan_nil _
  sendDoneIdle _ := rfl
  closedIff := ⟨nofun, fun hdone => nomatch hdone.1⟩
  causeIff := ⟨fun hne => absurd rfl hne, nofun⟩

/-- A data frame carries the id it was built with (R163). -/
theorem makeData_id (sync : U32) (p : Bytes) (l : Bool) (b : SeqBit) : be16At (makeData sync p l b) 12 = idOfBit b :=
  be16_join _

/-- A data frame has neither the `ACK` nor the `RST` bit (R161). -/
theorem makeData_flags (sync : U32) (p : Bytes) (l : Bool) (b : SeqBit) :
    byteAt (makeData sync p l b) 14 &&& 0xA0 = 0 := by
  have hflags : byteAt (makeData sync p l b) 14 = if l then flagEnd else 0 := rfl
  rw [hflags]
  cases l <;> decide

/-- An armed timer is within its range (R5, R27). -/
theorem fullCount_rtoTicks_mem (cfg : Cfg) :
    1 ≤ (fullCount cfg.rtoTicks).toNat ∧ (fullCount cfg.rtoTicks).toNat ≤ cfg.rtoTicks := by
  rw [fullCount_toNat]
  exact ⟨cfg.rtoTicks_pos, le_refl _⟩

/-- An accepted SEND (R161). -/
theorem BlockInv.transmitNew {s : State} (h : BlockInv s) (hready : s.sendReady = true) (p : Bytes) (l : Bool) :
    BlockInv (transmitNew (makeData s.cfg.sync p l s.outboundId) s) := by
  obtain ⟨hopen, -, hdone⟩ := (sendReady_iff s).1 hready
  exact { h with
    pendingHolds := fun f hf => by
      cases hf
      exact ⟨hopen, makeData_id .., makeData_flags .., fullCount_rtoTicks_mem s.cfg⟩
    timerStopped := nofun
    retryBound := Nat.zero_le _
    sendDoneIdle := fun hd => nomatch hdone.symm.trans hd }

/-- While a frame is pending, the timer can be set to any other value of its range and a retransmission counted within
the budget (R166, R167). -/
theorem BlockInv.setCounters {s : State} (h : BlockInv s) {f : Bytes} (hpend : s.pending = some f)
    {timer : Counter s.cfg.rtoTicks} {count : Counter s.cfg.retryLimit}
    (htimer : 1 ≤ timer.toNat ∧ timer.toNat ≤ s.cfg.rtoTicks) (hcount : count.toNat ≤ s.cfg.retryLimit) :
    BlockInv { s with rtxTimer := timer, retryCount := count } :=
  { h with
    pendingHolds := fun g hg =>
      have ⟨hopen, hid, hflags, _⟩ := h.pendingHolds g hg
      ⟨hopen, hid, hflags, htimer⟩
    timerStopped := fun hnone => nomatch hnone.symm.trans hpend
    retryBound := hcount }

/-- A TICK that is no expiry (R166): the timer stood above 1. -/
theorem BlockInv.countDown {s : State} (h : BlockInv s) {f : Bytes} (hpend : s.pending = some f)
    (hone : s.rtxTimer ≠ 1) : BlockInv { s with rtxTimer := s.rtxTimer - 1 } := by
  obtain ⟨-, -, -, hlow, hhigh⟩ := h.pendingHolds f hpend
  have hne : s.rtxTimer.toNat ≠ 1 := mt counter_eq_one_iff.2 hone
  have hpred := counter_pred_toNat hlow
  exact h.setCounters hpend (by omega) h.retryBound

/-- A retransmitting expiry (R167). -/
theorem BlockInv.retransmit {s : State} (h : BlockInv s) {f : Bytes} (hpend : s.pending = some f)
    (hretry : s.retryCount.toNat < s.cfg.retryLimit) : BlockInv (retransmit f s) :=
  (h.setCounters hpend (fullCount_rtoTicks_mem s.cfg) (by rw [counter_succ_toNat hretry]; exact hretry)).emit (.tx f)

theorem BlockInv.effect {i : Instr} {s t : State} (h : BlockInv s) (heff : Effect s i t) : BlockInv t := by
  cases heff with
  | reset => exact blockInv_resetConnection s
  | ignored => exact h
  | sendAborted => exact h.emit _
  | sent p l hready _ => exact h.transmitNew hready p l
  | received _ hopen hrec => exact h.clearCarry.received hopen hrec
  | noMarker c _ hscan => exact (h.keep (lastSeven_length _) (scan_drop_eq_none hscan _)).emit _
  | countedDown f _ hpend hone => exact h.countDown hpend hone
  | retransmitted f _ hpend _ hretry => exact h.retransmit hpend hretry
  | budgetSpent f hopen => exact h.abort (cause := .retryBudgetExhausted) hopen nofun _

/-- Whatever the instruction, its next state meets the invariants (R32). -/
theorem BlockInv.exec {i : Instr} {s t : State} (h : BlockInv s) (hexec : exec i s = .next t) : BlockInv t :=
  h.effect (effect_of_exec hexec)

/-- An item that is no instruction is a frame that is ignored or received (R123). -/
theorem BlockInv.discardItem {s : State} (h : BlockInv s) (item : PortItem) : BlockInv (discardItem item s) := by
  cases item with
  | event => exact h
  | frame b =>
    show BlockInv (receiveCandidate b s)
    obtain heq | ⟨hopen, hrec⟩ := receiveCandidate_received b s
    · rwa [heq]
    · exact h.clearCarry.received hopen hrec

/-- Settles O7, by the cases of a step; the work is `effect_of_exec` and one lemma for each operation. -/
theorem invariantsHoldAfterEveryStep : Obligations.InvariantsHoldAfterEveryStep := by
  intro s t h hstep
  cases hbox : s.inbox with
  | nil =>
    cases (step_of_inbox_nil hbox).symm.trans hstep
    exact h
  | cons item rest =>
    have hrest : BlockInv { s with inbox := rest } := h.queues rest s.out
    cases hdec : decode item with
    | ok i => exact hrest.exec ((step_of_decode_ok hbox hdec).symm.trans hstep)
    | error e =>
      cases (step_of_decode_error hbox hdec).symm.trans hstep
      exact hrest.discardItem item

/-- Settles O8: the reset state is itself what RESET makes of a state. -/
theorem invariantsHoldAtReset : Obligations.InvariantsHoldAtReset := by
  refine ⟨blockInv_resetConnection State.reset, fun s t h => ?_⟩
  cases h
  exact blockInv_resetConnection s

/-! ## `inboundId` is written and never read (R23, R202) -/

/-- The same state but for the value of `inboundId`. -/
def State.withInboundId (s : State) (b : SeqBit) : State := { s with inboundId := b }

@[simp] theorem withInboundId_conn (s : State) (b : SeqBit) : (s.withInboundId b).conn = s.conn := rfl
@[simp] theorem withInboundId_sync (s : State) (b : SeqBit) : (s.withInboundId b).cfg.sync = s.cfg.sync := rfl
@[simp] theorem withInboundId_maxPayload (s : State) (b : SeqBit) :
    (s.withInboundId b).cfg.maxPayload = s.cfg.maxPayload := rfl
@[simp] theorem withInboundId_outboundId (s : State) (b : SeqBit) :
    (s.withInboundId b).outboundId = s.outboundId := rfl
@[simp] theorem withInboundId_pending (s : State) (b : SeqBit) : (s.withInboundId b).pending = s.pending := rfl
@[simp] theorem withInboundId_carry (s : State) (b : SeqBit) : (s.withInboundId b).carry = s.carry := rfl
@[simp] theorem withInboundId_sendReady (s : State) (b : SeqBit) :
    (s.withInboundId b).sendReady = s.sendReady := rfl
@[simp] theorem withInboundId_isDuplicate (f : Frame) (s : State) (b : SeqBit) :
    isDuplicate f (s.withInboundId b) = isDuplicate f s := rfl

/-- The operation gives the same state, up to the value of `inboundId`, whatever `inboundId` was. -/
def InboundBlind (f : State → State) : Prop :=
  ∀ (s : State) (b : SeqBit), ∃ c, f (s.withInboundId b) = (f s).withInboundId c

theorem inboundBlind_emit (a : Action) : InboundBlind (·.emit a) := fun _ b => ⟨b, rfl⟩

theorem inboundBlind_abortRst (msg : Bytes) : InboundBlind (abortRst msg) := fun _ b => ⟨b, rfl⟩

theorem inboundBlind_reAck (f : Frame) : InboundBlind (reAck f) := fun _ b => ⟨b, rfl⟩

theorem inboundBlind_ackMatch (g : Bytes) : InboundBlind (ackMatch g) :=
  fun s b => ⟨b, by rw [ackMatch_eq, ackMatch_eq]; rfl⟩

/-- A new data frame flips whatever `inboundId` was (R201). -/
theorem inboundBlind_newData (f : Frame) (isEnd : Bool) : InboundBlind (newData f isEnd) :=
  fun s b => ⟨flipBit b, by rw [newData_eq, newData_eq]; rfl⟩

theorem inboundBlind_ackCase (f : Frame) : InboundBlind (ackCase f) := by
  intro s b
  rw [ackCase, ackCase, withInboundId_pending, withInboundId_outboundId]
  split
  · split
    · exact inboundBlind_ackMatch _ s b
    · exact inboundBlind_emit _ s b
  · exact inboundBlind_emit _ s b

theorem inboundBlind_dataCase (isEnd : Bool) (f : Frame) : InboundBlind (dataCase isEnd f) := by
  intro s b
  rw [dataCase, dataCase, withInboundId_isDuplicate]
  split
  · exact inboundBlind_reAck f s b
  · exact inboundBlind_newData f isEnd s b

theorem inboundBlind_afterIdCheck {isRst : Bool} {k : Frame → State → State} (hk : ∀ f, InboundBlind (k f))
    (f : Frame) : InboundBlind (afterIdCheck isRst k f) := by
  intro s b
  unfold afterIdCheck
  split
  · exact inboundBlind_emit _ s b
  · exact hk f s b

theorem inboundBlind_classify (f : Frame) : InboundBlind (classify f) := by
  refine inboundBlind_afterIdCheck (fun f s b => ?_) f
  split
  · exact inboundBlind_abortRst _ s b
  split
  · exact inboundBlind_ackCase f s b
  · exact inboundBlind_dataCase _ f s b

theorem inboundBlind_receiveWith {k : Frame → State → State} (hk : ∀ f, InboundBlind (k f)) (cand : Bytes) :
    InboundBlind (receiveWith k cand) := by
  intro s b
  rw [receiveWith, receiveWith, withInboundId_conn, withInboundId_sync]
  split
  · exact ⟨b, rfl⟩
  split
  · exact ⟨b, rfl⟩
  · exact hk _ s.clearCarry b

theorem inboundBlind_rejectIllegalFlags (h : Header) (p : Bytes) : InboundBlind (rejectIllegalFlags h p) := by
  intro s b
  rw [rejectIllegalFlags, rejectIllegalFlags, withInboundId_conn, withInboundId_sync]
  refine ⟨b, ?_⟩
  split_ifs <;> rfl

/-- What O14 asks of an instruction's meaning. -/
def OutcomeInboundBlind (e : State → Host.Outcome State Fault Refusal) : Prop :=
  ∀ (s t : State) (b : SeqBit), e s = .next t → ∃ c, e (s.withInboundId b) = .next (t.withInboundId c)

theorem OutcomeInboundBlind.of_next {f : State → State} (hf : InboundBlind f) :
    OutcomeInboundBlind fun s => .next (f s) := by
  intro s t b h
  cases h
  obtain ⟨c, hc⟩ := hf s b
  exact ⟨c, congrArg _ hc⟩

theorem inboundBlind_execSend (p : Bytes) (l : Bool) : OutcomeInboundBlind (execSend p l) := by
  refine OutcomeInboundBlind.of_next fun s b => ?_
  rw [withInboundId_conn, withInboundId_sendReady, withInboundId_maxPayload]
  refine ⟨b, ?_⟩
  split_ifs <;> rfl

theorem inboundBlind_execRxRead (chunk : Bytes) : OutcomeInboundBlind (execRxRead chunk) := by
  refine OutcomeInboundBlind.of_next fun s b => ?_
  rw [withInboundId_conn, withInboundId_carry, withInboundId_sync]
  split
  · exact ⟨b, rfl⟩
  split
  · exact ⟨b, rfl⟩
  · exact inboundBlind_receiveWith inboundBlind_classify _ s b

theorem inboundBlind_execTick : OutcomeInboundBlind execTick := by
  refine OutcomeInboundBlind.of_next fun s b => ⟨b, ?_⟩
  rw [withInboundId_conn, withInboundId_pending]
  split
  · rfl
  split
  · rfl
  · show (if s.rtxTimer - 1 ≠ 0 then _ else if s.retryCount.toNat < s.cfg.retryLimit then _ else _) = _
    split_ifs <;> rfl

theorem inboundBlind_exec (i : Instr) : OutcomeInboundBlind (exec i) := by
  cases i with
  | data h p | dataEnd h p =>
    exact .of_next (inboundBlind_receiveWith (inboundBlind_afterIdCheck (inboundBlind_dataCase _)) _)
  | ack h p => exact .of_next (inboundBlind_receiveWith (inboundBlind_afterIdCheck inboundBlind_ackCase) _)
  | rst h p | rstEnd h p | rstAck h p =>
    exact .of_next (inboundBlind_receiveWith (inboundBlind_afterIdCheck fun f => inboundBlind_abortRst f.payload) _)
  | illegalAckEnd h p | illegalAckEndRst h p => exact .of_next (inboundBlind_rejectIllegalFlags h p)
  | reset => exact .of_next fun s b => ⟨0, rfl⟩
  | send p l => exact inboundBlind_execSend p l
  | rxRead chunk => exact inboundBlind_execRxRead chunk
  | tick => exact inboundBlind_execTick

/-- Settles O14, operation by operation. -/
theorem inboundIdIsNeverConsulted : Obligations.InboundIdIsNeverConsulted :=
  inboundBlind_exec

/-! ## The status registers (R36) -/

/-- An open connection that an instruction other than TICK aborts was aborted by a received `RST` (R230, R233). -/
theorem Effect.abortCause_of_ne_tick {i : Instr} {s t : State} (h : Effect s i t) (hopen : s.conn = .opened)
    (habort : t.conn = .aborted) (hi : i ≠ .tick) : t.abortCause = .rstReceived := by
  cases h with
  | received _ _ hrec =>
    cases hrec with
    | aborted msg => rfl
    | logged c => exact nomatch hopen.symm.trans habort
    | duplicate f => exact nomatch hopen.symm.trans habort
    | acked g hpend =>
      rw [ackMatch_eq] at habort
      exact absurd habort (ite_closed_ne_aborted hopen _)
    | delivered f isEnd =>
      rw [newData_eq] at habort
      exact absurd habort (ite_closed_ne_aborted hopen _)
  | reset => nomatch habort
  | ignored | sendAborted | sent | noMarker => exact nomatch hopen.symm.trans habort
  | countedDown | retransmitted | budgetSpent => exact absurd rfl hi

/-- An open connection that a TICK aborts has spent its retry budget (R232). -/
theorem Effect.abortCause_of_tick {s t : State} (h : Effect s .tick t) (hopen : s.conn = .opened)
    (habort : t.conn = .aborted) : t.abortCause = .retryBudgetExhausted := by
  cases h with
  | budgetSpent => rfl
  | ignored | countedDown | retransmitted => exact nomatch hopen.symm.trans habort
  | received htick => exact absurd rfl htick

theorem sendReady_eq_false {s : State} (h : s.conn ≠ .opened) : s.sendReady = false :=
  Bool.eq_false_iff.2 fun hready => h ((sendReady_iff s).1 hready).1

/-- Settles O19. What S0, S1 and the first S7 show is the invariants of the next state (O7); the cause of an abort and
that it stays are read off what the instruction can do. -/
theorem statusRegistersShowHowTheConnectionEnded : Obligations.StatusRegistersShowHowTheConnectionEnded := by
  intro i s t hinv hexec
  have heff : Effect s i t := effect_of_exec hexec
  have hnext : BlockInv t := hinv.effect heff
  have hcause {u : State} (c : Code) (h : u.abortCause = c) : u.status.abortCause = c.number :=
    congrArg Code.number h
  refine ⟨fun ht => ?_, fun ht => ?_, fun ht => ?_, fun hs ht hi => ?_, fun hs ht hi => ?_, fun hs hi => ?_⟩
  · exact ⟨congrArg Conn.code ht, hcause _ (hnext.cause_none (by simp [ht]))⟩
  · obtain ⟨hsend, hrecv⟩ := hnext.closedIff.1 ht
    exact ⟨congrArg Conn.code ht, sendReady_eq_false (by simp [ht]), hsend, hrecv,
      hcause _ (hnext.cause_none (by simp [ht]))⟩
  · exact ⟨congrArg Conn.code ht, sendReady_eq_false (by simp [ht])⟩
  · subst hi
    exact hcause _ (heff.abortCause_of_tick hs ht)
  · exact hcause _ (heff.abortCause_of_ne_tick hs ht hi)
  · obtain rfl | rfl := heff.of_terminal (by simp [hs]) hi <;> rfl

/-- Settles O18. -/
theorem statusRegistersAfterReset : Obligations.StatusRegistersAfterReset := by
  intro s t h
  cases h
  rfl

/-- Settles O20. -/
theorem statesAndCodesAreNumberedAsInTheTables : Obligations.StatesAndCodesAreNumberedAsInTheTables :=
  ⟨rfl, rfl⟩

/-- Settles O51, by the three cases of a SEND. -/
theorem sendReadyTellsAcceptance : Obligations.SendReadyTellsAcceptance := by
  intro p l s t hlen h
  obtain ⟨hab, heq⟩ | ⟨-, hno, heq⟩ | ⟨hready, -, heq⟩ := execSend_cases p l s <;> cases heq.symm.trans h
  · exact iff_of_false (by simp [sendReady_eq_false (s := s) (by simp [hab])]) fun ⟨hnone, hsome⟩ => hsome hnone
  · have hfalse : s.sendReady = false := hno.resolve_right (by omega)
    exact iff_of_false (by simp [hfalse]) fun ⟨hnone, hsome⟩ => hsome hnone
  · exact iff_of_true hready ⟨((sendReady_iff s).1 hready).2.1, nofun⟩

/-! ## RESET (R40) -/

/-- Settles O17: the first part is the definition of `resetConnection`, the second that terminal states absorb. -/
theorem resetCreatesTheConnection : Obligations.ResetCreatesTheConnection := by
  refine ⟨fun s => rfl, fun i s t h hterm hi => ?_⟩
  obtain rfl | rfl := (effect_of_exec h).of_terminal hterm hi <;> rfl

/-! ## The counters (R26, R27) -/

/-- No smaller positive width holds the range. -/
theorem counterWidth_le {limit w : Nat} (hw : 1 ≤ w) (hlimit : limit < 2 ^ w) : counterWidth limit ≤ w :=
  max_le hw (Nat.clog_le_of_le_pow hlimit)

/-- Settles O21, from the laws of counters; the width for the default `RETRY_LIMIT` is the least that holds 16. -/
theorem countersHaveTheLeastWidthThatHoldsTheirRange :
    Obligations.CountersHaveTheLeastWidthThatHoldsTheirRange := by
  refine ⟨fun limit => ⟨rfl, lt_two_pow_counterWidth limit, fun w => counterWidth_le⟩, ?_, fun s => ?_⟩
  · refine le_antisymm (counterWidth_le (by decide) (by decide)) ?_
    have hholds : 2 ^ 4 < 2 ^ counterWidth 16 := lt_two_pow_counterWidth 16
    exact (Nat.pow_lt_pow_iff_right (by decide)).1 hholds
  · exact ⟨counter_succ_toNat, counter_pred_toNat, fullCount_toNat _⟩

end Sys2Proof.Machine
end

section
/-! Proofs for the statements on 20_memory.md: the order of the actions of one event (R62), and of two events that are
ready together (R61). -/

namespace Sys2Proof.Machine

/-! ## The actions of one event (R62, R209)

The action lists, each under a name; then, for each operation, which of them it appends. -/

section ActionShape
variable {cfg : Cfg}

theorem ActionShape.nil : ActionShape cfg [] := .inl rfl

theorem ActionShape.sendAborted : ActionShape cfg [.sendAborted] := .inr <| .inl rfl

/-- A matching acknowledgment, which may close the connection (R198). -/
theorem ActionShape.acked (closes : Bool) : ActionShape cfg (.sendOk :: if closes then [.closed] else []) := by
  cases closes
  · exact .inr <| .inr <| .inl rfl
  · exact .inr <| .inr <| .inr <| .inl rfl

theorem ActionShape.tx (f : Bytes) : ActionShape cfg [.tx f] := .inr <| .inr <| .inr <| .inr <| .inl ⟨f, rfl⟩

theorem ActionShape.log {c : Code} (hc : c.recoverable = true) : ActionShape cfg [.log c] :=
  .inr <| .inr <| .inr <| .inr <| .inr <| .inl ⟨c, rfl, hc⟩

/-- A new data frame, which may close the connection (R201). -/
theorem ActionShape.delivered (p : Bytes) (bit : SeqBit) (closes : Bool) :
    ActionShape cfg (.deliver p :: .tx (makeAck cfg.sync (idOfBit bit)) :: if closes then [.closed] else []) := by
  cases closes
  · exact .inr <| .inr <| .inr <| .inr <| .inr <| .inr <| .inl ⟨p, bit, rfl⟩
  · exact .inr <| .inr <| .inr <| .inr <| .inr <| .inr <| .inr <| .inl ⟨p, bit, rfl⟩

theorem ActionShape.duplicate (bit : SeqBit) :
    ActionShape cfg [.log .duplicate, .tx (makeAck cfg.sync (idOfBit bit))] :=
  .inr <| .inr <| .inr <| .inr <| .inr <| .inr <| .inr <| .inr <| .inl ⟨bit, rfl⟩

theorem ActionShape.rstReceived (msg : Bytes) : ActionShape cfg [.aborted .rstReceived msg] :=
  .inr <| .inr <| .inr <| .inr <| .inr <| .inr <| .inr <| .inr <| .inr <| .inl ⟨msg, rfl⟩

theorem ActionShape.budgetSpent :
    ActionShape cfg [.tx (makeRst cfg), .aborted .retryBudgetExhausted cfg.rstMsg] :=
  .inr <| .inr <| .inr <| .inr <| .inr <| .inr <| .inr <| .inr <| .inr <| .inr rfl

end ActionShape

/-- `t` has emitted, after the actions of `s`, one of the listed action lists. -/
def EmitsShape (s t : State) : Prop := ∃ acts, t.out = s.out ++ acts ∧ ActionShape s.cfg acts

theorem emitsShape_of_silent {s t : State} (h : t.out = s.out) : EmitsShape s t :=
  ⟨[], by simp [h], .nil⟩

theorem emitsShape_emit_log (s : State) {c : Code} (hc : c.recoverable = true) : EmitsShape s (s.emit (.log c)) :=
  ⟨_, emit_out s _, .log hc⟩

theorem emitsShape_abortRst (msg : Bytes) (s : State) : EmitsShape s (abortRst msg s) :=
  ⟨_, abort_out _ _ s, .rstReceived msg⟩

theorem ackMatch_out (g : Bytes) (s : State) :
    (ackMatch g s).out = s.out ++
      .sendOk :: if (s.sendDone || endSet (byteAt g 14)) && s.recvDone then [.closed] else [] := by
  rw [ackMatch_eq]
  exact List.append_assoc _ [_] _

theorem emitsShape_ackMatch (g : Bytes) (s : State) : EmitsShape s (ackMatch g s) :=
  ⟨_, ackMatch_out g s, .acked _⟩

theorem emitsShape_ackCase (f : Frame) (s : State) : EmitsShape s (ackCase f s) := by
  obtain ⟨g, -, -, heq⟩ | ⟨-, heq⟩ := ackCase_cases f s <;> rw [heq]
  · exact emitsShape_ackMatch g s
  · exact emitsShape_emit_log s rfl

/-- What step 0 lets through without the `RST` bit is a sequence bit (R195). -/
theorem exists_idOfBit_of_idRefused {id : U16} (h : idRefused id false = false) : ∃ bit, id = idOfBit bit := by
  obtain h0 | h1 | ⟨-, hrst⟩ := idRefused_eq_false.1 h
  · exact ⟨0, h0⟩
  · exact ⟨1, h1⟩
  · cases hrst

/-- Both answers to a data frame acknowledge its id, which step 0 has let through (R200, R201). -/
theorem emitsShape_dataCase (isEnd : Bool) (f : Frame) (s : State) (hid : idRefused f.id false = false) :
    EmitsShape s (dataCase isEnd f s) := by
  obtain ⟨bit, hbit⟩ := exists_idOfBit_of_idRefused hid
  obtain ⟨-, heq⟩ | ⟨-, heq⟩ := dataCase_cases isEnd f s <;> rw [heq]
  · rw [reAck_eq, hbit]
    exact ⟨_, rfl, .duplicate bit⟩
  · rw [newData_eq, hbit]
    exact ⟨_, List.append_assoc _ _ _, .delivered f.payload bit _⟩

theorem emitsShape_afterIdCheck {isRst : Bool} {k : Frame → State → State}
    (hk : ∀ f s, idRefused f.id isRst = false → EmitsShape s (k f s)) (f : Frame) (s : State) :
    EmitsShape s (afterIdCheck isRst k f s) := by
  obtain ⟨-, heq⟩ | ⟨hid, heq⟩ := afterIdCheck_cases isRst k f s <;> rw [heq]
  · exact emitsShape_emit_log s rfl
  · exact hk f s hid

theorem emitsShape_classify (f : Frame) (s : State) : EmitsShape s (classify f s) := by
  obtain ⟨-, heq⟩ | ⟨-, -, heq⟩ | ⟨-, -, -, heq⟩ | ⟨hid, -, -, heq⟩ := classify_cases f s <;> rw [heq]
  · exact emitsShape_emit_log s rfl
  · exact emitsShape_abortRst f.payload s
  · exact emitsShape_ackCase f s
  · exact emitsShape_dataCase _ f s hid

/-- R225: every decode error leaves all but `carry` alone. -/
theorem DecodeError.code_recoverable (e : DecodeError) : e.code.recoverable = true := by
  cases e <;> rfl

theorem emitsShape_receiveWith {k : Frame → State → State} (hk : ∀ f s, EmitsShape s (k f s)) (cand : Bytes)
    (s : State) : EmitsShape s (receiveWith k cand s) := by
  obtain ⟨-, heq⟩ | ⟨-, e, -, heq⟩ | ⟨-, f, -, heq⟩ := receiveWith_cases k cand s <;> rw [heq]
  · exact emitsShape_of_silent rfl
  · exact ⟨_, rfl, .log e.code_recoverable⟩
  · exact hk f s.clearCarry

theorem emitsShape_rejectIllegalFlags (h : Header) (p : Bytes) (s : State) :
    EmitsShape s (rejectIllegalFlags h p s) := by
  obtain ⟨-, heq⟩ | ⟨-, c, hc, heq⟩ := rejectIllegalFlags_cases h p s <;> rw [heq]
  · exact emitsShape_of_silent rfl
  · have hrec : c.recoverable = true := by obtain rfl | rfl | rfl := hc <;> rfl
    exact ⟨_, rfl, .log hrec⟩

theorem emitsShape_execSend {p : Bytes} {l : Bool} {s t : State} (h : execSend p l s = .next t) :
    EmitsShape s t := by
  obtain ⟨-, heq⟩ | ⟨-, -, heq⟩ | ⟨-, -, heq⟩ := execSend_cases p l s <;> cases heq.symm.trans h
  · exact ⟨_, rfl, .sendAborted⟩
  · exact emitsShape_of_silent rfl
  · exact ⟨_, rfl, .tx _⟩

theorem emitsShape_execRxRead {c : Bytes} {s t : State} (h : execRxRead c s = .next t) : EmitsShape s t := by
  obtain ⟨-, heq⟩ | ⟨-, -, -, heq⟩ | ⟨-, -, n, -, heq⟩ := execRxRead_cases c s <;> cases heq.symm.trans h
  · exact emitsShape_of_silent rfl
  · exact ⟨_, rfl, .log rfl⟩
  · exact emitsShape_receiveWith emitsShape_classify _ s

theorem emitsShape_execTick {s t : State} (h : execTick s = .next t) : EmitsShape s t := by
  obtain ⟨-, heq⟩ | ⟨f, -, -, ⟨-, heq⟩ | ⟨-, -, heq⟩ | ⟨-, -, heq⟩⟩ := execTick_cases s <;> cases heq.symm.trans h
  · exact emitsShape_of_silent rfl
  · exact emitsShape_of_silent rfl
  · exact ⟨_, rfl, .tx f⟩
  · exact ⟨_, rfl, .budgetSpent⟩

/-- Settles O10, by the instructions, each from what its operations append. -/
theorem actionsOfOneEventAreOrdered : Obligations.ActionsOfOneEventAreOrdered := by
  intro i s t h
  cases i with
  | data hd p | dataEnd hd p =>
    cases h
    exact emitsShape_receiveWith (emitsShape_afterIdCheck (emitsShape_dataCase _)) _ s
  | ack hd p =>
    cases h
    exact emitsShape_receiveWith (emitsShape_afterIdCheck fun f s _ => emitsShape_ackCase f s) _ s
  | rst hd p | rstEnd hd p | rstAck hd p =>
    cases h
    exact emitsShape_receiveWith (emitsShape_afterIdCheck fun f s _ => emitsShape_abortRst f.payload s) _ s
  | illegalAckEnd hd p | illegalAckEndRst hd p =>
    cases h
    exact emitsShape_rejectIllegalFlags hd p s
  | reset =>
    cases h
    exact emitsShape_of_silent (resetConnection_out s)
  | send p l => exact emitsShape_execSend h
  | rxRead c => exact emitsShape_execRxRead h
  | tick => exact emitsShape_execTick h

/-! ## An expiry and the matching acknowledgment (R61) -/

/-- An intact frame decodes to its own fields (R122). -/
theorem decodeFrame_frameBytes {sync : U32} {ty : FrameType} {h : Header} {p : Bytes}
    (hin : FrameIntact sync ty h p) :
    decodeFrame sync (frameBytes ty h p) = .ok
      { checksum := h.checksum, length := h.length, id := h.id, flags := flagsByte ty h.reserved, payload := p } := by
  obtain ⟨hsync1, hsync2, hlen, hflags, hsum⟩ := hin
  have hdec := decodeFrame_of_checks (sync := sync) (b := frameBytes ty h p) (by simp)
    (by rw [frameBytes_marker, hsync1, hsync2]; rfl)
    (by rw [frameBytes_lengthField, hlen]; simp)
    (by rw [frameBytes_flags, frameBytes_lengthField, hflags])
    (by rw [frameBytes_checksum, hsum])
  rwa [frameBytes_checksum, frameBytes_lengthField, frameBytes_id, frameBytes_flags, frameBytes_payload] at hdec

/-- An intact frame goes on to the work of its type, with `carry` emptied (R143). -/
theorem receiveWith_frameBytes {k : Frame → State → State} {ty : FrameType} {h : Header} {p : Bytes} {s : State}
    (hopen : s.conn = .opened) (hin : FrameIntact s.cfg.sync ty h p) :
    receiveWith k (frameBytes ty h p) s =
      k { checksum := h.checksum, length := h.length, id := h.id, flags := flagsByte ty h.reserved, payload := p }
        s.clearCarry := by
  simp [receiveWith, hopen, decodeFrame_frameBytes hin]

/-- Step 0 lets every sequence bit through (R195). -/
theorem idRefused_idOfBit (bit : SeqBit) (isRst : Bool) : idRefused (idOfBit bit) isRst = false := by
  revert bit isRst
  decide

/-- An intact acknowledgment of the pending frame is a match (R197, R198). -/
theorem exec_ack_of_match {h : Header} {s : State} {f : Bytes} (hopen : s.conn = .opened)
    (hin : FrameIntact s.cfg.sync .ack h []) (hpend : s.pending = some f) (hid : h.id = idOfBit s.outboundId) :
    exec (.ack h []) s = .next (ackMatch f s.clearCarry) := by
  show Host.Outcome.next (receiveWith (afterIdCheck false ackCase) (frameBytes .ack h []) s) = _
  rw [receiveWith_frameBytes hopen hin]
  simp [afterIdCheck, ackCase, hid, idRefused_idOfBit, hpend]

/-- With nothing pending a TICK does nothing (R165). -/
theorem exec_tick_of_idle {s : State} (hnone : s.pending = none) : exec .tick s = .next s := by
  obtain ⟨-, heq⟩ | ⟨f, -, hpend, -⟩ := execTick_cases s
  · exact heq
  · cases hnone.symm.trans hpend

/-- An expiry within the budget retransmits (R167). -/
theorem exec_tick_of_expiry {s : State} {f : Bytes} (hopen : s.conn = .opened) (hpend : s.pending = some f)
    (hone : s.rtxTimer = 1) (hretry : s.retryCount.toNat < s.cfg.retryLimit) :
    exec .tick s = .next (retransmit f s) := by
  obtain ⟨hidle | hidle, -⟩ | ⟨g, -, hg, ⟨hne, -⟩ | ⟨-, -, heq⟩ | ⟨-, hspent, -⟩⟩ := execTick_cases s
  · exact absurd hopen hidle
  · cases hidle.symm.trans hpend
  · exact absurd hone hne
  · cases hg.symm.trans hpend
    exact heq
  · omega

/-- A match overwrites the two counters that a retransmission writes, so only the emitted frame tells whether there was
one. -/
theorem ackMatch_clearCarry_retransmit (f : Bytes) (s : State) :
    ackMatch f (retransmit f s).clearCarry =
      { ackMatch f s.clearCarry with
        out := s.out ++ .tx f ::
          .sendOk :: if (s.sendDone || endSet (byteAt f 14)) && s.recvDone then [.closed] else [] } := by
  rw [ackMatch_eq, ackMatch_eq]
  simp [retransmit, State.emit, State.clearCarry]

/-- Settles O55. A retransmission leaves the acknowledgment a match, and the match leaves the TICK nothing to do. -/
theorem expiryAndAckInEitherOrder : Obligations.ExpiryAndAckInEitherOrder := by
  intro h s f hopen hin hpend hid hone hretry
  have hidle : (ackMatch f s.clearCarry).pending = none := by rw [ackMatch_eq]
  refine ⟨retransmit f s, ackMatch f s.clearCarry, _, exec_ack_of_match hopen hin hpend hid, exec_tick_of_idle hidle,
    ackMatch_out f s.clearCarry, exec_tick_of_expiry hopen hpend hone hretry, retransmit_out f s, ?_⟩
  exact (exec_ack_of_match (s := retransmit f s) hopen hin hpend hid).trans
    (congrArg _ (ackMatch_clearCarry_retransmit f s))

end Sys2Proof.Machine
end

section
/-! Proofs for the statements on 30_encoding.md: an instruction and its bits are the same thing (R81, R86, R95), which
frames the block transmits and that they decode (R89), the end of a frame (R88) and the illegal flags (R91). -/

namespace Sys2Proof

/-! ## Decoding and encoding -/

/-- A frame instruction is written as the bytes of its frame, whatever the type (R86). -/
theorem encode_ofFrame (t : FrameType) (h : Header) (p : Bytes) :
    encode (.ofFrame t h p) = .frame (frameBytes t h p) := by
  cases t <;> rfl

/-- At least 15 bytes are read as the frame instruction that their header selects (R81, R94). -/
theorem decode_frame {b : Bytes} (hb : 15 ≤ b.length) :
    decode (.frame b) = .ok (.ofFrame (frameTypeOf b) (headerOf b) (b.drop 15)) :=
  if_neg (Nat.not_lt.2 hb)

/-- The bytes of a frame are read as the frame. -/
theorem decode_frameBytes (t : FrameType) (h : Header) (p : Bytes) :
    decode (.frame (frameBytes t h p)) = .ok (.ofFrame t h p) := by
  rw [decode_frame (by simp), frameBytes_type, headerOf_frameBytes, frameBytes_payload]

/-- Settles O1: the frame types by `decode_frameBytes`, the events by their codes. -/
theorem decodeOfEncodeIsTheInstruction : Obligations.DecodeOfEncodeIsTheInstruction := by
  intro i
  cases i with
  | data h p => exact decode_frameBytes .data h p
  | dataEnd h p => exact decode_frameBytes .dataEnd h p
  | ack h p => exact decode_frameBytes .ack h p
  | rst h p => exact decode_frameBytes .rst h p
  | rstEnd h p => exact decode_frameBytes .rstEnd h p
  | rstAck h p => exact decode_frameBytes .rstAck h p
  | illegalAckEnd h p => exact decode_frameBytes .illegalAckEnd h p
  | illegalAckEndRst h p => exact decode_frameBytes .illegalAckEndRst h p
  | reset | send | rxRead | tick => rfl

/-- Settles O2: the type and the header are those that the bytes hold. -/
theorem encodeOfDecodedFrameIsTheBytes : Obligations.EncodeOfDecodedFrameIsTheBytes := by
  intro b hb
  refine ⟨frameTypeOf b, headerOf b, decode_frame hb, ?_⟩
  rw [encode_ofFrame, frameBytes_of_bytes hb]

/-- Settles O3: the words are fixed, and the decoder evaluates on each. -/
theorem specWordsDecodeToTheirInstructions : Obligations.SpecWordsDecodeToTheirInstructions :=
  ⟨rfl, rfl, rfl, rfl, rfl, rfl, rfl⟩

end Sys2Proof

namespace Sys2Proof.Machine

/-! ## The frames that are transmitted (R89)

A frame goes out alone only from SEND and TICK; every other transmission is an acknowledgment or the reset frame, as the
action lists of R209 show. -/

theorem emittedKind_makeAck (cfg : Cfg) (bit : SeqBit) : EmittedKind cfg (makeAck cfg.sync (idOfBit bit)) :=
  .inr (.inl ⟨bit, rfl⟩)

theorem emittedKind_makeRst (cfg : Cfg) : EmittedKind cfg (makeRst cfg) := .inr (.inr rfl)

/-- A frame in one of the listed action lists is the whole list, an acknowledgment or the reset frame. -/
theorem ActionShape.of_tx_mem {cfg : Cfg} {acts : List Action} (h : ActionShape cfg acts) {b : Bytes}
    (hb : .tx b ∈ acts) : acts = [.tx b] ∨ EmittedKind cfg b := by
  obtain rfl | rfl | rfl | rfl | ⟨f, rfl⟩ | ⟨c, rfl, -⟩ | ⟨p, bit, rfl⟩ | ⟨p, bit, rfl⟩ | ⟨bit, rfl⟩ | ⟨msg, rfl⟩ |
      rfl := h <;>
    simp at hb <;> subst hb
  · exact .inl rfl
  · exact .inr (emittedKind_makeAck cfg bit)
  · exact .inr (emittedKind_makeAck cfg bit)
  · exact .inr (emittedKind_makeAck cfg bit)
  · exact .inr (emittedKind_makeRst cfg)

/-- No answer to a received frame is one lone transmission (R209). -/
theorem Received.out_ne_tx {s t : State} (h : Received s t) (b : Bytes) : t.out ≠ s.out ++ [.tx b] := by
  cases h with
  | logged | aborted => simp [abortRst]
  | acked g => simp [ackMatch_out]
  | duplicate f => simp [reAck_eq]
  | delivered f isEnd => simp [newData_eq]

/-- A frame transmitted alone is the one pending afterwards: just accepted (R161) or retransmitted (R167). -/
theorem Effect.pending_of_tx_alone {i : Instr} {s t : State} (h : Effect s i t) {b : Bytes}
    (hout : t.out = s.out ++ [.tx b]) : t.cfg = s.cfg ∧ t.pending = some b := by
  cases h with
  | sent p l => simpa using hout
  | retransmitted f _ hpend =>
    have hfb : f = b := by simpa using hout
    exact ⟨rfl, hfb ▸ hpend⟩
  | received _ _ hrec => exact absurd hout (hrec.out_ne_tx b)
  | reset | ignored | sendAborted | noMarker | countedDown | budgetSpent => simp at hout

theorem PendingIsData.of_none {s : State} (h : s.pending = none) : PendingIsData s :=
  fun _ hf => nomatch h.symm.trans hf

/-- A change that leaves the pending frame, the marker, the payload limit and the sequence bit alone. -/
theorem PendingIsData.of_same {s t : State} (h : PendingIsData s) (hcfg : t.cfg = s.cfg)
    (hpend : t.pending = s.pending) (hbit : t.outboundId = s.outboundId) : PendingIsData t := by
  intro f hf
  rw [hcfg, hbit]
  exact h f (hpend.symm.trans hf)

theorem PendingIsData.received {s t : State} (h : PendingIsData s) (hrec : Received s t) : PendingIsData t := by
  cases hrec with
  | logged | duplicate => exact h.of_same rfl rfl rfl
  | aborted => exact .of_none rfl
  | acked g => exact .of_none (by rw [ackMatch_eq])
  | delivered f isEnd => rw [newData_eq]; exact h.of_same rfl rfl rfl

theorem PendingIsData.effect {i : Instr} {s t : State} (h : PendingIsData s) (heff : Effect s i t) :
    PendingIsData t := by
  cases heff with
  | sent p l _ hlen => exact fun f hf => ⟨p, l, hlen, (Option.some.inj hf).symm⟩
  | received _ _ hrec => exact (h.of_same (t := s.clearCarry) rfl rfl rfl).received hrec
  | reset | budgetSpent => exact .of_none rfl
  | ignored | sendAborted | noMarker | countedDown | retransmitted => exact h.of_same rfl rfl rfl

/-- Settles O11. A frame that the action lists of O10 leave open is transmitted alone, so it is the pending one. -/
theorem onlyTheFourFrameKindsAreTransmitted : Obligations.OnlyTheFourFrameKindsAreTransmitted := by
  intro i s t hs hexec
  have heff := effect_of_exec hexec
  have ht := hs.effect heff
  obtain ⟨acts, hout, hshape⟩ := actionsOfOneEventAreOrdered i s t hexec
  refine ⟨ht, acts, hout, fun b hb => ?_⟩
  obtain rfl | hkind := hshape.of_tx_mem hb
  · obtain ⟨hcfg, hpend⟩ := heff.pending_of_tx_alone hout
    obtain ⟨p, l, hlen, heq⟩ := ht b hpend
    rw [hcfg] at hlen heq
    exact .inl ⟨p, l, t.outboundId, hlen, heq⟩
  · exact hkind

/-! ## What ENCODE writes, and that DECODE reads it (R121, R128) -/

section EncodeFrame
variable (sync : U32) (p : Bytes) (id : U16) (flags : Byte)

@[simp] theorem encodeFrame_length : (encodeFrame sync p id flags).length = p.length + 15 := rfl

theorem encodeFrame_marker : (encodeFrame sync p id flags).take 8 = mark sync := rfl

theorem encodeFrame_lengthField : be16At (encodeFrame sync p id flags) 10 = BitVec.ofNat 16 p.length := be16_join _

theorem encodeFrame_id : be16At (encodeFrame sync p id flags) 12 = id := be16_join _

theorem encodeFrame_flags : byteAt (encodeFrame sync p id flags) 14 = flags := rfl

theorem encodeFrame_payload : (encodeFrame sync p id flags).drop 15 = p := rfl

/-- The checksum written is the one that DECODE computes (R114). -/
theorem encodeFrame_checksum :
    be16At (encodeFrame sync p id flags) 8 = frameCsum (encodeFrame sync p id flags) := be16_join _

end EncodeFrame

/-- ENCODE of operands within R131 decodes to them, unless their flags fail check (d). -/
theorem decodeFrame_encodeFrame {sync : U32} {p : Bytes} {id : U16} {flags : Byte} (hlen : p.length ≤ 65535)
    (hflags : flagsIllegal flags (BitVec.ofNat 16 p.length) = false) :
    decodeFrame sync (encodeFrame sync p id flags) = .ok
      { checksum := frameCsum (encodeFrame sync p id flags), length := BitVec.ofNat 16 p.length, id := id,
        flags := flags, payload := p } := by
  have hfield : (BitVec.ofNat 16 p.length).toNat = p.length := by
    rw [BitVec.toNat_ofNat]
    omega
  have hdec := decodeFrame_of_checks (sync := sync) (b := encodeFrame sync p id flags) (by simp)
    (encodeFrame_marker ..)
    (by rw [encodeFrame_lengthField, hfield]; simp)
    (by rw [encodeFrame_flags, encodeFrame_lengthField, hflags])
    (encodeFrame_checksum ..).symm
  rwa [encodeFrame_checksum, encodeFrame_lengthField, encodeFrame_id, encodeFrame_flags, encodeFrame_payload] at hdec

/-- Without the `ACK` bit no length makes the flags illegal (R126). -/
theorem flagsIllegal_of_not_ack {flags : Byte} (h : ackSet flags = false) (length : U16) :
    flagsIllegal flags length = false := by
  simp [flagsIllegal, h]

/-- What ENCODE must be given for the peer to take its frame: a payload that fits the length field, and flags and an id
that check (d) and step 0 let through. -/
theorem encodeFrame_accepted {sync : U32} {p : Bytes} {id : U16} {flags : Byte} (hlen : p.length ≤ 65535)
    (hflags : flagsIllegal flags (BitVec.ofNat 16 p.length) = false) (hid : idRefused id (rstSet flags) = false) :
    ∃ f, decodeFrame sync (encodeFrame sync p id flags) = .ok f ∧
      (encodeFrame sync p id flags).length = 15 + f.payload.length ∧ idRefused f.id (rstSet f.flags) = false :=
  ⟨_, decodeFrame_encodeFrame hlen hflags, (encodeFrame_length ..).trans (Nat.add_comm _ _), hid⟩

/-- Settles O12: each of the four kinds gives ENCODE such operands (R161, R173, R174). -/
theorem transmittedFramesDecode : Obligations.TransmittedFramesDecode := by
  intro cfg b hkind
  obtain ⟨p, l, bit, hlen, rfl⟩ | ⟨bit, rfl⟩ | rfl := hkind
  · have hack : ackSet (if l then flagEnd else 0) = false := by cases l <;> decide
    have hmax := cfg.maxPayload.isLt
    exact encodeFrame_accepted (by omega) (flagsIllegal_of_not_ack hack _) (idRefused_idOfBit bit _)
  · exact encodeFrame_accepted (Nat.zero_le _) (by decide) (idRefused_idOfBit bit _)
  · exact encodeFrame_accepted cfg.rstMsg_le (flagsIllegal_of_not_ack (by decide) _) (by decide)

/-! ## The end of a frame (R88)

The length field stands in the header, so of all byte sequences with the same header only those of one length can pass
check (c). -/

theorem byteAt_take {b : Bytes} {n i : Nat} (h : i < n) : byteAt (b.take n) i = byteAt b i := by
  simp [byteAt, List.getD, List.getElem?_take_of_lt h]

/-- The length field is part of the header. -/
theorem lengthField_take (b : Bytes) : be16At (b.take 15) 10 = be16At b 10 := by
  simp [be16At, byteAt_take]

/-- What passes checks (a) and (b) and not (c) (R122). -/
theorem decodeFrame_of_lengthMismatch {sync : U32} {b : Bytes} (hlen : 15 ≤ b.length) (hmark : b.take 8 = mark sync)
    (hfield : (be16At b 10).toNat ≠ b.length - 15) : decodeFrame sync b = .error .lengthMismatch := by
  simp [decodeFrame, hdrLen, Nat.not_lt.2 hlen, hmark, hfield]

/-- Bytes with the header of a frame that decodes, and of another length, fail check (c). -/
theorem decodeFrame_of_same_header {sync : U32} {b c : Bytes} {f : Frame} (hdec : decodeFrame sync b = .ok f)
    (hhead : c.take 15 = b.take 15) (hlong : 15 ≤ c.length) (hne : c.length ≠ b.length) :
    decodeFrame sync c = .error .lengthMismatch := by
  obtain ⟨hlen, hmark, hfield, -⟩ := decodeFrame_ok hdec
  have htake : c.take 8 = b.take 8 := by simpa [List.take_take] using congrArg (List.take 8) hhead
  have hsame : be16At c 10 = be16At b 10 := by rw [← lengthField_take c, hhead, lengthField_take]
  refine decodeFrame_of_lengthMismatch hlong (htake.trans hmark) ?_
  rw [hsame, hfield]
  omega

/-- Settles O31: bytes appended, or cut off from byte 15 on, leave the header and change the length. -/
theorem frameNotEndingAtTheReadIsRefused : Obligations.FrameNotEndingAtTheReadIsRefused := by
  intro sync b f hdec
  obtain ⟨hlen, -⟩ := decodeFrame_ok hdec
  constructor
  · intro extra hextra
    have hpos := List.length_pos_iff.2 hextra
    exact decodeFrame_of_same_header hdec (List.take_append_of_le_length hlen) (by simp; omega) (by simp; omega)
  · intro n hn hcut
    exact decodeFrame_of_same_header hdec (by rw [List.take_take, Nat.min_eq_left hn]) (by simp; omega) (by simp; omega)

/-! ## The illegal flags (R91, R126)

Check (d) comes before the checksum is looked at. The two illegal types have their own meaning, `rejectIllegalFlags`; an
acknowledgment with a payload fails in DECODE. -/

/-- A right marker and length take an illegal type to check (d), which it fails (R91). -/
theorem rejectIllegalFlags_of_agrees {h : Header} {p : Bytes} {s : State} (hopen : s.conn = .opened)
    (hsync1 : h.sync1 = s.cfg.sync) (hsync2 : h.sync2 = s.cfg.sync) (hlen : h.length.toNat = p.length) :
    rejectIllegalFlags h p s = s.clearCarry.emit (.log .invalidFlags) := by
  simp [rejectIllegalFlags, hopen, hsync1, hsync2, hlen]

/-- A frame with a right marker and length, and illegal flags, fails check (d) (R122). -/
theorem decodeFrame_of_flagsIllegal {sync : U32} {ty : FrameType} {h : Header} {p : Bytes} (hsync1 : h.sync1 = sync)
    (hsync2 : h.sync2 = sync) (hlen : h.length.toNat = p.length)
    (hflags : flagsIllegal (flagsByte ty h.reserved) h.length = true) :
    decodeFrame sync (frameBytes ty h p) = .error .invalidFlags := by
  have hmark : (frameBytes ty h p).take 8 = mark sync := by rw [frameBytes_marker, hsync1, hsync2]; rfl
  simp [decodeFrame, hdrLen, hmark, frameBytes_lengthField, frameBytes_flags, hlen, hflags]

/-- The `ACK` bit with a payload is illegal (R126). -/
theorem flagsIllegal_of_ack {flags : Byte} {length : U16} (hack : ackSet flags = true) (hlen : length ≠ 0) :
    flagsIllegal flags length = true := by
  simpa [flagsIllegal, hack] using .inr hlen

theorem ackSet_flagsByte_ack (reserved : BitVec 5) : ackSet (flagsByte .ack reserved) = true := by
  revert reserved; decide

theorem ackSet_flagsByte_rstAck (reserved : BitVec 5) : ackSet (flagsByte .rstAck reserved) = true := by
  revert reserved; decide

/-- A frame type with the `ACK` bit, received with a payload, is dropped with InvalidFlags before its own work. -/
theorem receiveWith_of_ack_payload {k : Frame → State → State} {ty : FrameType} {h : Header} {p : Bytes} {s : State}
    (hopen : s.conn = .opened) (hsync1 : h.sync1 = s.cfg.sync) (hsync2 : h.sync2 = s.cfg.sync)
    (hlen : h.length.toNat = p.length) (hack : ackSet (flagsByte ty h.reserved) = true) (hp : p ≠ []) :
    receiveWith k (frameBytes ty h p) s = s.clearCarry.emit (.log .invalidFlags) := by
  have hne : h.length ≠ 0 := by
    intro h0
    rw [h0] at hlen
    exact hp (List.length_eq_zero_iff.1 hlen.symm)
  simp [receiveWith, hopen, decodeFrame_of_flagsIllegal hsync1 hsync2 hlen (flagsIllegal_of_ack hack hne),
    DecodeError.code]

/-- Settles O47: `rejectIllegalFlags` for the two illegal types, check (d) of DECODE for the two acknowledgments. -/
theorem illegalFlagsAreDiscarded : Obligations.IllegalFlagsAreDiscarded := by
  intro h p s hopen hsync1 hsync2 hlen t
  have hreject : rejectIllegalFlags h p s = t := rejectIllegalFlags_of_agrees hopen hsync1 hsync2 hlen
  refine ⟨congrArg _ hreject, congrArg _ hreject, fun hp => ?_⟩
  exact ⟨congrArg _ (receiveWith_of_ack_payload hopen hsync1 hsync2 hlen (ackSet_flagsByte_ack _) hp),
    congrArg _ (receiveWith_of_ack_payload hopen hsync1 hsync2 hlen (ackSet_flagsByte_rstAck _) hp)⟩

end Sys2Proof.Machine
end

section
/-! Proofs for the statements on 40_checksum.md: the sum of the words, the folded sum as a residue modulo 65535 (R113),
and the checksum field (R114). -/

namespace Sys2Proof.Machine

/-! ## The sum of the words (R111) -/

/-- The value of one big-endian word (R111). -/
def wordValue (w : Byte × Byte) : Nat := 256 * w.1.toNat + w.2.toNat

theorem wordValue_le (w : Byte × Byte) : wordValue w ≤ 65535 := by
  have hhi := w.1.isLt
  have hlo := w.2.isLt
  unfold wordValue
  omega

theorem wordSum_cons_cons (hi lo : Byte) (b : Bytes) : wordSum (hi :: lo :: b) = wordValue (hi, lo) + wordSum b := rfl

/-- Whole words in front add their values, whatever bytes follow. -/
theorem wordSum_flatMap_append (ws : List (Byte × Byte)) (b : Bytes) :
    wordSum ((ws.flatMap fun w => [w.1, w.2]) ++ b) = (ws.map wordValue).sum + wordSum b := by
  induction ws with
  | nil => simp
  | cons w ws ih =>
    simp only [List.flatMap_cons, List.cons_append, List.nil_append, List.map_cons, List.sum_cons,
      wordSum_cons_cons, ih]
    exact (Nat.add_assoc ..).symm

theorem wordSum_flatMap (ws : List (Byte × Byte)) :
    wordSum (ws.flatMap fun w => [w.1, w.2]) = (ws.map wordValue).sum := by
  simpa [wordSum] using wordSum_flatMap_append ws []

theorem length_flatMap_words (ws : List (Byte × Byte)) : (ws.flatMap fun w => [w.1, w.2]).length = 2 * ws.length := by
  simp [List.length_flatMap, Nat.mul_comm]

/-- Each word, the padded last one too, is at most 65535. -/
theorem wordSum_le (b : Bytes) : wordSum b ≤ 65535 * ((b.length + 1) / 2) := by
  induction b using wordSum.induct with
  | case1 => simp [wordSum]
  | case2 hi =>
    have := hi.isLt
    simp only [wordSum, List.length_singleton]
    omega
  | case3 hi lo b ih =>
    have := wordValue_le (hi, lo)
    simp only [wordSum_cons_cons, List.length_cons]
    omega

/-- The bound that makes two folds enough, for the operands of R111. -/
theorem wordSum_le_of_length_le {b : Bytes} (h : b.length ≤ 131072) : wordSum b ≤ 65535 * 65536 :=
  (wordSum_le b).trans (by omega)

theorem byte_toNat_eq_zero_iff {x : Byte} : x.toNat = 0 ↔ x = 0 := (BitVec.toNat_eq (y := 0)).symm

theorem wordSum_eq_zero_iff (b : Bytes) : wordSum b = 0 ↔ ∀ x ∈ b, x = 0 := by
  induction b using wordSum.induct with
  | case1 => simp [wordSum]
  | case2 hi => simp [wordSum, byte_toNat_eq_zero_iff]
  | case3 hi lo b ih => simp [wordSum, ih, byte_toNat_eq_zero_iff, and_assoc]

/-! ## The folded sum (R113)

A fold keeps the residue modulo 65535 and being zero. A value of at most 65535 is pinned by these two, and so is the
value of the end-around accumulator. -/

/-- The residue of `n` modulo 65535, taken in 1..65535 unless `n` is 0 (R113(a)). -/
def onesResidue (n : Nat) : Nat := if n = 0 then 0 else (n - 1) % 65535 + 1

theorem onesResidue_zero : onesResidue 0 = 0 := rfl

theorem onesResidue_le (n : Nat) : onesResidue n ≤ 65535 := by
  unfold onesResidue
  split <;> omega

theorem onesResidue_eq_zero_iff {n : Nat} : onesResidue n = 0 ↔ n = 0 := by
  unfold onesResidue
  split <;> omega

theorem onesResidue_mod (n : Nat) : onesResidue n % 65535 = n % 65535 := by
  unfold onesResidue
  split <;> omega

/-- The largest value stands for the positive multiples of 65535. -/
theorem onesResidue_eq_max_iff {n : Nat} : onesResidue n = 65535 ↔ 0 < n ∧ 65535 ∣ n := by
  unfold onesResidue
  split <;> omega

/-- What a value must have to be the residue. -/
theorem eq_onesResidue {r n : Nat} (hle : r ≤ 65535) (hzero : r = 0 ↔ n = 0) (hmod : r % 65535 = n % 65535) :
    r = onesResidue n := by
  have hle' := onesResidue_le n
  have hzero' := onesResidue_eq_zero_iff (n := n)
  have hmod' := onesResidue_mod n
  omega

/-- One word of a running sum may be added before or after the residue is taken. -/
theorem onesResidue_add_left (m v : Nat) : onesResidue (onesResidue m + v) = onesResidue (m + v) := by
  have hzero := onesResidue_eq_zero_iff (n := m)
  have hmod := onesResidue_mod m
  refine eq_onesResidue (onesResidue_le _) ?_ ?_
  · rw [onesResidue_eq_zero_iff]
    omega
  · rw [onesResidue_mod]
    omega

/-- R113(d): a word of ones changes only a sum that was 0. -/
theorem onesResidue_add_ones {n : Nat} (h : 0 < n) : onesResidue (n + 65535) = onesResidue n := by
  refine (eq_onesResidue (onesResidue_le n) ?_ ?_).symm
  · rw [onesResidue_eq_zero_iff]
    omega
  · rw [onesResidue_mod]
    omega

theorem foldCarry_eq_zero_iff {n : Nat} : foldCarry n = 0 ↔ n = 0 := by
  unfold foldCarry
  omega

theorem foldCarry_mod (n : Nat) : foldCarry n % 65535 = n % 65535 := by
  unfold foldCarry
  omega

theorem foldCarry_foldCarry_le {n : Nat} (h : n ≤ 65535 * 65536) : foldCarry (foldCarry n) ≤ 65535 := by
  have hfirst : foldCarry n ≤ 131070 := by
    unfold foldCarry
    omega
  have hsecond : ∀ m ≤ 131070, foldCarry m ≤ 65535 := by
    intro m hm
    unfold foldCarry
    omega
  exact hsecond _ hfirst

theorem foldCarry_foldCarry {n : Nat} (h : n ≤ 65535 * 65536) : foldCarry (foldCarry n) = onesResidue n :=
  eq_onesResidue (foldCarry_foldCarry_le h) (foldCarry_eq_zero_iff.trans foldCarry_eq_zero_iff)
    ((foldCarry_mod _).trans (foldCarry_mod n))

/-! ## The checksum -/

theorem csum16_toNat (b : Bytes) : (csum16 b).toNat = 65535 - foldCarry (foldCarry (wordSum b)) := by
  rw [csum16, BitVec.toNat_ofNat]
  omega

/-- `CSUM16` of an operand of R111 is the complement of its residue. -/
theorem csum16_toNat_of_length_le {b : Bytes} (h : b.length ≤ 131072) :
    (csum16 b).toNat = 65535 - onesResidue (wordSum b) := by
  rw [csum16_toNat, foldCarry_foldCarry (wordSum_le_of_length_le h)]

/-- Operands whose sums have the same residue have the same checksum. -/
theorem csum16_congr {b c : Bytes} (hb : b.length ≤ 131072) (hc : c.length ≤ 131072)
    (h : onesResidue (wordSum b) = onesResidue (wordSum c)) : csum16 b = csum16 c :=
  BitVec.eq_of_toNat_eq (by rw [csum16_toNat_of_length_le hb, csum16_toNat_of_length_le hc, h])

/-- Settles O22: `onesResidue` is the closed form. -/
theorem checksumClosedForm : Obligations.ChecksumClosedForm :=
  fun b hlen => ⟨foldCarry_foldCarry (wordSum_le_of_length_le hlen), csum16_toNat b⟩

/-- Settles O23: the residue is 0 for a zero sum only, and 65535 for the positive multiples of 65535 only. -/
theorem checksumOfAllOnesAndZero : Obligations.ChecksumOfAllOnesAndZero := by
  intro b hlen
  have hcsum := csum16_toNat_of_length_le hlen
  have hle := onesResidue_le (wordSum b)
  constructor
  · calc csum16 b = 0xFFFF
      _ ↔ onesResidue (wordSum b) = 0 := by
        rw [BitVec.toNat_eq, hcsum, show (0xFFFF : U16).toNat = 65535 from rfl]
        omega
      _ ↔ wordSum b = 0 := onesResidue_eq_zero_iff
      _ ↔ ∀ x ∈ b, x = 0 := wordSum_eq_zero_iff b
  · calc csum16 b = 0
      _ ↔ onesResidue (wordSum b) = 65535 := by
        rw [BitVec.toNat_eq, hcsum, show (0 : U16).toNat = 0 from rfl]
        omega
      _ ↔ 0 < wordSum b ∧ 65535 ∣ wordSum b := onesResidue_eq_max_iff

/-! ## The end-around accumulator (R113(c)) -/

theorem endAroundAdd_eq {acc : Nat} (hacc : acc ≤ 65535) (w : Byte × Byte) :
    endAroundAdd acc w = onesResidue (acc + wordValue w) := by
  have hw := wordValue_le w
  have hsum : acc + 256 * w.1.toNat + w.2.toNat = acc + wordValue w := Nat.add_assoc ..
  rw [endAroundAdd, hsum]
  split <;> exact eq_onesResidue (by omega) (by omega) (by omega)

/-- The accumulator holds the residue of the sum of the words taken in so far. -/
theorem foldl_endAroundAdd (ws : List (Byte × Byte)) (m : Nat) :
    ws.foldl endAroundAdd (onesResidue m) = onesResidue (m + (ws.map wordValue).sum) := by
  induction ws generalizing m with
  | nil => rfl
  | cons w ws ih =>
    rw [List.foldl_cons, endAroundAdd_eq (onesResidue_le m), onesResidue_add_left, ih, List.map_cons, List.sum_cons,
      Nat.add_assoc]

/-- Settles O24: both sides are the residue of the sum of the words. -/
theorem endAroundAccumulatorIsExact : Obligations.EndAroundAccumulatorIsExact := by
  intro ws hlen
  have hbytes : (ws.flatMap fun w => [w.1, w.2]).length ≤ 131072 := by
    rw [length_flatMap_words]
    omega
  calc ws.foldl endAroundAdd 0
    _ = onesResidue ((ws.map wordValue).sum) := by simpa [onesResidue_zero] using foldl_endAroundAdd ws 0
    _ = onesResidue (wordSum (ws.flatMap fun w => [w.1, w.2])) := by rw [wordSum_flatMap]
    _ = foldCarry (foldCarry (wordSum (ws.flatMap fun w => [w.1, w.2]))) :=
      (foldCarry_foldCarry (wordSum_le_of_length_le hbytes)).symm

/-! ## The order of the words, and one more word of ones (R113(b), R113(d)) -/

theorem wordSum_flatMap_perm {ws vs : List (Byte × Byte)} (h : ws.Perm vs) :
    wordSum (ws.flatMap fun w => [w.1, w.2]) = wordSum (vs.flatMap fun w => [w.1, w.2]) := by
  rw [wordSum_flatMap, wordSum_flatMap, (h.map wordValue).sum_eq]

/-- A word of ones after whole words adds 65535 to the sum. -/
theorem wordSum_flatMap_append_ones (ws : List (Byte × Byte)) :
    wordSum ((ws.flatMap fun w => [w.1, w.2]) ++ [0xFF, 0xFF]) =
      wordSum (ws.flatMap fun w => [w.1, w.2]) + 65535 := by
  rw [wordSum_flatMap_append, wordSum_flatMap]
  rfl

/-- Settles O25: a permutation keeps the sum, and a word of ones keeps the residue of a positive one. -/
theorem checksumIgnoresWordOrderAndOnes : Obligations.ChecksumIgnoresWordOrderAndOnes := by
  intro ws vs hlen hperm
  have hbytes := length_flatMap_words ws
  constructor
  · unfold csum16
    rw [wordSum_flatMap_perm hperm]
  · intro hpos
    have hlong : ((ws.flatMap fun w => [w.1, w.2]) ++ [0xFF, 0xFF] : Bytes).length ≤ 131072 := by
      rw [List.length_append, hbytes, List.length_cons, List.length_singleton]
      omega
    refine csum16_congr hlong (by omega) ?_
    rw [wordSum_flatMap_append_ones, onesResidue_add_ones hpos]

/-! ## The checksum field (R114) -/

/-- `FRAME_CSUM` of bytes that hold a checksum field is `CSUM16` of the bytes around it, with two zeros between. -/
theorem frameCsum_append {pre : Bytes} (h : pre.length = 8) (a b : Byte) (post : Bytes) :
    frameCsum (pre ++ a :: b :: post) = csum16 (pre ++ [0, 0] ++ post) := by
  have htake : (pre ++ a :: b :: post).take 8 = pre := List.take_left' h
  have hdrop : (pre ++ a :: b :: post).drop 10 = post := by simp [List.drop_append, h, List.drop_of_length_le]
  rw [frameCsum, htake, hdrop]

/-- Settles O26: neither side holds the bytes of the field. -/
theorem frameChecksumIgnoresItsField : Obligations.FrameChecksumIgnoresItsField := by
  intro pre post a b c d hpre
  rw [frameCsum_append hpre, frameCsum_append hpre]

end Sys2Proof.Machine
end

section
/-! Proofs for the statements on 41_codec.md: DECODE check by check (R122), ENCODE and DECODE as inverses (R128), one
changed bit (R129), and what the block does with a frame that fails a check (R124, R130). -/

namespace Sys2Proof.Machine

/-! ## DECODE, check by check (R122) -/

/-- The `ACK` bit is bit 7 of the flags byte (R86). -/
theorem ackSet_eq_getLsbD (flags : Byte) : ackSet flags = flags.getLsbD 7 := by
  revert flags; decide

/-- The `END` bit is bit 6 of the flags byte (R86). -/
theorem endSet_eq_getLsbD (flags : Byte) : endSet flags = flags.getLsbD 6 := by
  revert flags; decide

/-- Check (d) as a proposition (R126). -/
theorem flagsIllegal_iff {flags : Byte} {length : U16} :
    flagsIllegal flags length = true ↔ ackSet flags = true ∧ (endSet flags = true ∨ length ≠ 0) := by
  simp [flagsIllegal, and_or_left]

/-- Where check (c) passes, the length field is zero just for a bare header (R84). -/
theorem lengthField_ne_zero_iff {b : Bytes} (hlen : 15 ≤ b.length) (hfield : (be16At b 10).toNat = b.length - 15) :
    be16At b 10 ≠ 0 ↔ b.length ≠ 15 := by
  rw [ne_eq, BitVec.toNat_eq, hfield, show (0 : U16).toNat = 0 from rfl]
  omega

section Checks
variable {sync : U32} {b : Bytes}

theorem decodeFrame_of_frameTooShort (hlen : b.length < 15) : decodeFrame sync b = .error .frameTooShort :=
  if_pos hlen

theorem decodeFrame_of_invalidSync (hlen : 15 ≤ b.length) (hmark : b.take 8 ≠ mark sync) :
    decodeFrame sync b = .error .invalidSync := by
  simp [decodeFrame, hdrLen, Nat.not_lt.2 hlen, hmark]

/-- Past checks (a) to (c) the flags decide, and then the checksum. -/
theorem decodeFrame_of_lengthField (hlen : 15 ≤ b.length) (hmark : b.take 8 = mark sync)
    (hfield : (be16At b 10).toNat = b.length - 15) :
    decodeFrame sync b =
      if flagsIllegal (byteAt b 14) (be16At b 10) then .error .invalidFlags
      else if frameCsum b ≠ be16At b 8 then .error .checksumMismatch
      else .ok
        { checksum := be16At b 8, length := be16At b 10, id := be16At b 12, flags := byteAt b 14,
          payload := b.drop 15 } := by
  simp [decodeFrame, hdrLen, Nat.not_lt.2 hlen, hmark, hfield]

end Checks

/-- Settles O29: one lemma for each check. -/
theorem decodeReportsTheFirstFailedCheck : Obligations.DecodeReportsTheFirstFailedCheck := by
  intro sync b
  refine ⟨decodeFrame_of_frameTooShort, decodeFrame_of_invalidSync, fun hlen hmark =>
    ⟨decodeFrame_of_lengthMismatch hlen hmark, fun hfield => ?_⟩⟩
  have hflags : flagsIllegal (byteAt b 14) (be16At b 10) = true ↔
      (byteAt b 14).getLsbD 7 = true ∧ ((byteAt b 14).getLsbD 6 = true ∨ b.length ≠ 15) := by
    rw [flagsIllegal_iff, ackSet_eq_getLsbD, endSet_eq_getLsbD, lengthField_ne_zero_iff hlen hfield]
  rw [decodeFrame_of_lengthField hlen hmark hfield, ← hflags]
  exact ⟨fun h => if_pos h, fun h => ⟨fun hsum => (if_neg h).trans (if_pos hsum),
    fun hsum => (if_neg h).trans (if_neg (not_not.2 hsum))⟩⟩

/-! ## ENCODE and DECODE (R121, R128) -/

/-- Settles O28. -/
theorem encodedFrameLength : Obligations.EncodedFrameLength :=
  fun _ payload _ _ => (encodeFrame_length ..).trans (Nat.add_comm payload.length 15)

/-- The fields of a frame's bytes, written again, are the bytes (R81). -/
theorem fields_of_bytes {b : Bytes} (hlen : 15 ≤ b.length) :
    b.take 8 ++ be16 (be16At b 8) ++ be16 (be16At b 10) ++ be16 (be16At b 12) ++ [byteAt b 14] ++ b.drop 15 = b := by
  obtain ⟨h0, h1, h2, h3, h4, h5, h6, h7, h8, h9, h10, h11, h12, h13, h14, p, rfl⟩ := exists_header_bytes hlen
  simp only [be16_be16At]
  rfl

/-- `FRAME_CSUM` from the fields (R114): the checksum field is not among them. -/
theorem frameCsum_of_fields {b : Bytes} (hlen : 15 ≤ b.length) :
    frameCsum b =
      csum16 (b.take 8 ++ [0, 0] ++ be16 (be16At b 10) ++ be16 (be16At b 12) ++ [byteAt b 14] ++ b.drop 15) := by
  obtain ⟨h0, h1, h2, h3, h4, h5, h6, h7, h8, h9, h10, h11, h12, h13, h14, p, rfl⟩ := exists_header_bytes hlen
  simp only [be16_be16At]
  rfl

/-- The length field is the payload's length when check (c) passes. -/
theorem ofNat_payload_length {b : Bytes} (hfield : (be16At b 10).toNat = b.length - 15) :
    BitVec.ofNat 16 (b.drop 15).length = be16At b 10 := by
  rw [List.length_drop, ← hfield, BitVec.ofNat_toNat, BitVec.setWidth_eq]

/-- ENCODE of what DECODE returned gives the bytes back (R128): the marker, the length and the checksum, which ENCODE
computes, are those that checks (b), (c) and (e) compared. -/
theorem encodeFrame_of_decodeFrame {sync : U32} {b : Bytes} {f : Frame} (hdec : decodeFrame sync b = .ok f) :
    encodeFrame sync f.payload f.id f.flags = b := by
  obtain ⟨hlen, hmark, hfield, -, hsum, rfl⟩ := decodeFrame_ok hdec
  rw [frameCsum_of_fields hlen] at hsum
  simp only [encodeFrame, ofNat_payload_length hfield, ← hmark, hsum]
  exact fields_of_bytes hlen

/-- The flags that R131 allows pass check (d). -/
theorem flagsIllegal_of_precondition {flags : Byte} {p : Bytes}
    (h : ackSet flags = true → endSet flags = false ∧ p = []) :
    flagsIllegal flags (BitVec.ofNat 16 p.length) = false := by
  refine Bool.eq_false_iff.2 fun hill => ?_
  obtain ⟨hack, hbad⟩ := flagsIllegal_iff.1 hill
  obtain ⟨hend, rfl⟩ := h hack
  simp [hend] at hbad

/-- Settles O27, by `decodeFrame_encodeFrame` and its converse. -/
theorem frameCodecRoundTrip : Obligations.FrameCodecRoundTrip := by
  refine ⟨fun sync p id flags hlen hflags => ?_, fun sync b f hdec => ⟨encodeFrame_of_decodeFrame hdec, ?_⟩⟩
  · refine ⟨_, decodeFrame_encodeFrame hlen (flagsIllegal_of_precondition hflags), rfl, rfl, rfl, ?_, rfl⟩
    exact (BitVec.toNat_ofNat ..).trans (Nat.mod_eq_of_lt (Nat.lt_succ_of_le hlen))
  · obtain ⟨-, -, hfield, -, -, rfl⟩ := decodeFrame_ok hdec
    exact hfield.trans List.length_drop.symm

/-! ## One changed bit (R129)

First what it does to the bytes and the fields, then to the checksum (R116), then to the checks in their order. -/

section Flip
variable {b : Bytes} {i k : Nat}

@[simp] theorem length_flipOneBit : (flipOneBit b i k).length = b.length := List.length_set

theorem byteAt_flipOneBit_self (hi : i < b.length) :
    byteAt (flipOneBit b i k) i = byteAt b i ^^^ BitVec.twoPow 8 k := by
  simp [flipOneBit, byteAt, List.getD, List.getElem?_set_self hi]

theorem byteAt_flipOneBit_of_ne {j : Nat} (hj : i ≠ j) : byteAt (flipOneBit b i k) j = byteAt b j := by
  simp [flipOneBit, byteAt, List.getD, List.getElem?_set_ne hj]

theorem byteAt_flipOneBit_ne (hi : i < b.length) (hk : k < 8) : byteAt (flipOneBit b i k) i ≠ byteAt b i := by
  rw [byteAt_flipOneBit_self hi]
  intro h
  have hbit := congrArg (BitVec.getLsbD · k) h
  simp [hk] at hbit

theorem take_flipOneBit_of_le {n : Nat} (hn : n ≤ i) : (flipOneBit b i k).take n = b.take n :=
  List.take_set_of_le hn

theorem drop_flipOneBit_of_lt {n : Nat} (hn : i < n) : (flipOneBit b i k).drop n = b.drop n :=
  List.drop_set_of_lt hn

theorem take_flipOneBit_ne {n : Nat} (hn : i < n) (hi : i < b.length) (hk : k < 8) :
    (flipOneBit b i k).take n ≠ b.take n := by
  intro h
  have hbyte := congrArg (byteAt · i) h
  simp only [byteAt_take hn] at hbyte
  exact byteAt_flipOneBit_ne hi hk hbyte

/-- Equal 16-bit fields have equal bytes. -/
theorem bytes_eq_of_be16At_eq {c : Bytes} {j : Nat} (h : be16At c j = be16At b j) :
    byteAt c j = byteAt b j ∧ byteAt c (j + 1) = byteAt b (j + 1) := by
  have hbytes := congrArg be16 h
  simpa only [be16_be16At, List.cons.injEq, and_true] using hbytes

theorem be16At_flipOneBit_of_ne {j : Nat} (h0 : i ≠ j) (h1 : i ≠ j + 1) :
    be16At (flipOneBit b i k) j = be16At b j := by
  rw [be16At, byteAt_flipOneBit_of_ne h0, byteAt_flipOneBit_of_ne h1, be16At]

theorem be16At_flipOneBit_ne {j : Nat} (hj : i = j ∨ i = j + 1) (hi : i < b.length) (hk : k < 8) :
    be16At (flipOneBit b i k) j ≠ be16At b j := by
  intro h
  obtain ⟨h0, h1⟩ := bytes_eq_of_be16At_eq h
  obtain rfl | rfl := hj
  · exact byteAt_flipOneBit_ne hi hk h0
  · exact byteAt_flipOneBit_ne hi hk h1

end Flip

/-! ### The checksum (R116(a)) -/

/-- Setting a clear bit adds its value. -/
theorem toNat_xor_twoPow_of_clear {w k : Nat} {x : BitVec w} (hk : k < w) (hbit : x.getLsbD k = false) :
    (x ^^^ BitVec.twoPow w k).toNat = x.toNat + 2 ^ k := by
  have hand : x &&& BitVec.twoPow w k = 0#w := by simp [BitVec.and_twoPow, hbit]
  have hxor : x ^^^ BitVec.twoPow w k = x ||| BitVec.twoPow w k := by
    refine BitVec.eq_of_getLsbD_eq fun j hj => ?_
    by_cases hjk : j = k
    · subst hjk
      simp [hbit]
    · simp [BitVec.getLsbD_twoPow, Ne.symm hjk]
  rw [hxor, ← BitVec.add_eq_or_of_and_eq_zero _ _ hand, BitVec.toNat_add_of_and_eq_zero hand,
    BitVec.toNat_twoPow_of_lt hk]

/-- Changing one bit adds or takes away its value. -/
theorem toNat_xor_twoPow {w k : Nat} (x : BitVec w) (hk : k < w) :
    (x ^^^ BitVec.twoPow w k).toNat = x.toNat + 2 ^ k ∨ (x ^^^ BitVec.twoPow w k).toNat + 2 ^ k = x.toNat := by
  cases hbit : x.getLsbD k with
  | false => exact .inl (toNat_xor_twoPow_of_clear hk hbit)
  | true =>
    have hclear : (x ^^^ BitVec.twoPow w k).getLsbD k = false := by
      simp [hbit, hk]
    have hback := toNat_xor_twoPow_of_clear hk hclear
    rw [BitVec.xor_assoc, BitVec.xor_self, BitVec.xor_zero] at hback
    exact .inr hback.symm

/-- What a byte's value counts in the sum of the words (R111). -/
def placeValue (i : Nat) : Nat := if i % 2 = 0 then 256 else 1

theorem placeValue_mem (i : Nat) : 1 ≤ placeValue i ∧ placeValue i ≤ 256 := by
  unfold placeValue
  split <;> omega

/-- Replacing one byte replaces its summand. -/
theorem wordSum_set {b : Bytes} {i : Nat} (hi : i < b.length) (v : Byte) :
    wordSum (b.set i v) + placeValue i * (byteAt b i).toNat = wordSum b + placeValue i * v.toNat := by
  induction b using wordSum.induct generalizing i with
  | case1 => exact absurd hi (Nat.not_lt_zero i)
  | case2 x =>
    obtain rfl : i = 0 := by simpa using hi
    simp [wordSum, placeValue, byteAt, Nat.add_comm]
  | case3 x y b ih =>
    match i, hi with
    | 0, _ => simp [wordSum, placeValue, byteAt]; omega
    | 1, _ => simp [wordSum, placeValue, byteAt]; omega
    | i + 2, hi =>
      have hrest := ih (i := i) (by simpa using hi)
      have hplace : placeValue (i + 2) = placeValue i := by simp [placeValue]
      have hbyte : byteAt (x :: y :: b) (i + 2) = byteAt b i := rfl
      simp only [List.set_cons_succ, wordSum_cons_cons, hplace, hbyte]
      omega

/-- One changed bit changes the sum by a power of two below 65535. -/
theorem wordSum_flipOneBit {b : Bytes} {i k : Nat} (hi : i < b.length) (hk : k < 8) :
    ∃ d, 0 < d ∧ d < 65535 ∧
      (wordSum (flipOneBit b i k) = wordSum b + d ∨ wordSum (flipOneBit b i k) + d = wordSum b) := by
  obtain ⟨hplace, hplace'⟩ := placeValue_mem i
  have hpow : 2 ^ k ≤ 2 ^ 7 := Nat.pow_le_pow_right (by decide) (Nat.le_of_lt_succ hk)
  have hprod : placeValue i * 2 ^ k ≤ 256 * 2 ^ 7 := Nat.mul_le_mul hplace' hpow
  refine ⟨placeValue i * 2 ^ k, Nat.mul_pos hplace (Nat.two_pow_pos k), by omega, ?_⟩
  have hset := wordSum_set hi (byteAt b i ^^^ BitVec.twoPow 8 k)
  unfold flipOneBit
  obtain hup | hdown := toNat_xor_twoPow (byteAt b i) hk
  · rw [hup, Nat.mul_add] at hset
    omega
  · rw [← hdown, Nat.mul_add] at hset
    omega

/-- No power of two below 65535 is a multiple of 65535, so the residue changes. -/
theorem csum16_flipOneBit_ne {b : Bytes} {i k : Nat} (hlen : b.length ≤ 131072) (hi : i < b.length) (hk : k < 8) :
    csum16 (flipOneBit b i k) ≠ csum16 b := by
  intro h
  have hnat := congrArg BitVec.toNat h
  rw [csum16_toNat_of_length_le (by simpa using hlen), csum16_toNat_of_length_le hlen] at hnat
  have hle := onesResidue_le (wordSum b)
  have hle' := onesResidue_le (wordSum (flipOneBit b i k))
  have hmod := onesResidue_mod (wordSum b)
  have hmod' := onesResidue_mod (wordSum (flipOneBit b i k))
  obtain ⟨d, hpos, hlt, hsum⟩ := wordSum_flipOneBit hi hk
  omega

/-- The bytes that `FRAME_CSUM` sums: the checksum field taken as zero (R114). -/
def zeroedField (b : Bytes) : Bytes := b.take 8 ++ [0, 0] ++ b.drop 10

theorem frameCsum_eq (b : Bytes) : frameCsum b = csum16 (zeroedField b) := rfl

theorem length_zeroedField {b : Bytes} (hlen : 10 ≤ b.length) : (zeroedField b).length = b.length := by
  simp [zeroedField]
  omega

/-- Zeroing the checksum field leaves the bytes after it. -/
theorem byteAt_zeroedField {b : Bytes} {i : Nat} (hi : 10 ≤ i) (hlen : 10 ≤ b.length) :
    byteAt (zeroedField b) i = byteAt b i := by
  have hpre : (b.take 8 ++ [0, 0]).length = 10 := by simp; omega
  rw [byteAt, zeroedField, List.getD, List.getElem?_append_right (hpre.trans_le hi), hpre, List.getElem?_drop,
    Nat.add_sub_of_le hi]
  rfl

/-- A bit after the checksum field is changed before or after the field is zeroed. -/
theorem zeroedField_flipOneBit {b : Bytes} {i k : Nat} (hi : 10 ≤ i) (hlen : 10 ≤ b.length) :
    zeroedField (flipOneBit b i k) = flipOneBit (zeroedField b) i k := by
  have hpre : (b.take 8 ++ [0, 0]).length = 10 := by simp; omega
  have hset : (b.take 8 ++ [0, 0] ++ b.drop 10).set i (byteAt b i ^^^ BitVec.twoPow 8 k) =
      b.take 8 ++ [0, 0] ++ (b.set i (byteAt b i ^^^ BitVec.twoPow 8 k)).drop 10 := by
    rw [List.set_append_right _ _ (hpre.trans_le hi), hpre, List.drop_set, if_neg (Nat.not_lt.2 hi)]
  rw [zeroedField, take_flipOneBit_of_le (by omega), flipOneBit, flipOneBit, byteAt_zeroedField hi hlen, ← hset,
    zeroedField]

/-- A bit after the checksum field changes the computed checksum. -/
theorem frameCsum_flipOneBit_ne {b : Bytes} {i k : Nat} (hlen : b.length ≤ 131072) (hi : 10 ≤ i) (hib : i < b.length)
    (hk : k < 8) : frameCsum (flipOneBit b i k) ≠ frameCsum b := by
  have hzero := length_zeroedField (b := b) (by omega)
  rw [frameCsum_eq, frameCsum_eq, zeroedField_flipOneBit hi (by omega)]
  exact csum16_flipOneBit_ne (by omega) (by omega) hk

/-- A bit of the checksum field does not. -/
theorem frameCsum_flipOneBit_of_field {b : Bytes} {i k : Nat} (hi : 8 ≤ i) (hi' : i < 10) :
    frameCsum (flipOneBit b i k) = frameCsum b := by
  rw [frameCsum, take_flipOneBit_of_le hi, drop_flipOneBit_of_lt hi', frameCsum]

/-! ### The flags (R126) -/

theorem ackSet_xor_twoPow (flags : Byte) (k : Nat) :
    ackSet (flags ^^^ BitVec.twoPow 8 k) = (ackSet flags ^^ decide (k = 7)) := by
  simp [ackSet_eq_getLsbD, eq_comm]

theorem endSet_xor_twoPow (flags : Byte) (k : Nat) :
    endSet (flags ^^^ BitVec.twoPow 8 k) = (endSet flags ^^ decide (k = 6)) := by
  simp [endSet_eq_getLsbD, eq_comm]

/-- Which changed bit makes legal flags illegal: `END` beside `ACK`, or `ACK` beside `END` or a payload. -/
theorem flagsIllegal_xor_twoPow {flags : Byte} {length : U16} {k : Nat} (hlegal : flagsIllegal flags length = false) :
    flagsIllegal (flags ^^^ BitVec.twoPow 8 k) length = true ↔
      (k = 6 ∧ ackSet flags = true) ∨ (k = 7 ∧ ackSet flags = false ∧ (endSet flags = true ∨ length ≠ 0)) := by
  have hlegal' := mt flagsIllegal_iff.2 (Bool.eq_false_iff.1 hlegal)
  rw [flagsIllegal_iff, ackSet_xor_twoPow, endSet_xor_twoPow]
  by_cases h6 : k = 6
  · subst h6
    cases hack : ackSet flags <;> simp_all
  by_cases h7 : k = 7
  · subst h7
    cases hack : ackSet flags <;> simp_all
  · simp_all

/-! ### The error (R129) -/

section FlipError
variable {b : Bytes} {i k : Nat}

/-- Past the marker, a changed bit makes the computed checksum and the field differ: it changes just one of them. -/
theorem frameCsum_flipOneBit_ne_field (hlen : b.length ≤ 131072) (h8 : 8 ≤ i) (hib : i < b.length) (hk : k < 8)
    (hsum : frameCsum b = be16At b 8) : frameCsum (flipOneBit b i k) ≠ be16At (flipOneBit b i k) 8 := by
  by_cases h10 : i < 10
  · rw [frameCsum_flipOneBit_of_field h8 h10, hsum]
    exact (be16At_flipOneBit_ne (by omega) hib hk).symm
  · rw [be16At_flipOneBit_of_ne (by omega) (by omega), ← hsum]
    exact frameCsum_flipOneBit_ne hlen (by omega) hib hk

/-- `flipError` past the marker and outside the length field: only check (d) comes before the checksum. -/
theorem flipError_eq_of_flagsIllegal (hlen : 15 ≤ b.length) (hfield : (be16At b 10).toNat = b.length - 15)
    (hlegal : flagsIllegal (byteAt b 14) (be16At b 10) = false) (h8 : 8 ≤ i) (hi : i < 10 ∨ 12 ≤ i) :
    flipError b i k =
      if flagsIllegal (byteAt (flipOneBit b i k) 14) (be16At b 10) then .invalidFlags else .checksumMismatch := by
  by_cases h14 : i = 14
  · subst h14
    have hne : be16At b 10 ≠ 0 ↔ hdrLen < b.length := by
      rw [lengthField_ne_zero_iff hlen hfield, hdrLen]
      omega
    simp only [byteAt_flipOneBit_self (Nat.lt_of_succ_le hlen), flagsIllegal_xor_twoPow hlegal, hne]
    by_cases h6 : k = 6
    · simp [flipError, h6]
    · simp [flipError, h6]
  · rw [byteAt_flipOneBit_of_ne h14, hlegal]
    have hmarker : ¬ i < 8 := Nat.not_lt.2 h8
    obtain h10 | h12 := hi
    · simp [flipError, hmarker, h10]
    · have h10 : ¬ i < 10 := by omega
      simp [flipError, hmarker, h10, Nat.not_lt.2 h12, h14]

end FlipError

/-- Settles O30, by the field that holds the bit: the marker, the length, or one that only the flags check and the
checksum look at. -/
theorem oneChangedBitNeverDecodes : Obligations.OneChangedBitNeverDecodes := by
  intro sync b f i k hdec hib hk
  obtain ⟨hlen, hmark, hfield, hlegal, hsum, -⟩ := decodeFrame_ok hdec
  have hlen' : 15 ≤ (flipOneBit b i k).length := length_flipOneBit.symm ▸ hlen
  by_cases h8 : i < 8
  · rw [decodeFrame_of_invalidSync hlen' (hmark ▸ take_flipOneBit_ne h8 hib hk), flipError, if_pos h8]
  have hmark' : (flipOneBit b i k).take 8 = mark sync := (take_flipOneBit_of_le (Nat.not_lt.1 h8)).trans hmark
  by_cases hi : i < 10 ∨ 12 ≤ i
  · have hsame : be16At (flipOneBit b i k) 10 = be16At b 10 := be16At_flipOneBit_of_ne (by omega) (by omega)
    have hfield' : (be16At (flipOneBit b i k) 10).toNat = (flipOneBit b i k).length - 15 := by
      rw [hsame, hfield, length_flipOneBit]
    have hbound : b.length ≤ 131072 := by
      have := (be16At b 10).isLt
      omega
    rw [decodeFrame_of_lengthField hlen' hmark' hfield',
      if_pos (frameCsum_flipOneBit_ne_field hbound (Nat.not_lt.1 h8) hib hk hsum), hsame,
      flipError_eq_of_flagsIllegal hlen hfield hlegal (Nat.not_lt.1 h8) hi, apply_ite Except.error]
  · have hfield' : (be16At (flipOneBit b i k) 10).toNat ≠ (flipOneBit b i k).length - 15 := by
      rw [length_flipOneBit, ← hfield]
      exact mt BitVec.eq_of_toNat_eq (be16At_flipOneBit_ne (by omega) hib hk)
    rw [decodeFrame_of_lengthMismatch hlen' hmark' hfield', flipError, if_neg h8, if_neg (by omega), if_pos (by omega)]

/-! ## What RX_READ logs (R124, conflict C6) -/

/-- The bytes at the offset that SCAN answers begin with the marker pair (R141). -/
theorem take_drop_of_scan {m b : Bytes} {n : Nat} (h : scan m b = some n) : (b.drop n).take 8 = m := by
  induction b generalizing n with
  | nil => cases h
  | cons x xs ih =>
    by_cases hx : (x :: xs).take 8 = m
    · rw [scan, if_pos hx] at h
      cases h
      exact hx
    · rw [scan, if_neg hx, Option.map_eq_some_iff] at h
      obtain ⟨n, hn, rfl⟩ := h
      exact ih hn

/-- DECODE reports `InvalidSync` only without the marker pair (R124). -/
theorem decodeFrame_ne_invalidSync {sync : U32} {b : Bytes} (hmark : b.take 8 = mark sync) :
    decodeFrame sync b ≠ .error .invalidSync := by
  unfold decodeFrame
  rw [if_neg (not_not.2 hmark)]
  split_ifs <;> nofun

theorem DecodeError.code_eq_invalidSync_iff (e : DecodeError) : e.code = .invalidSync ↔ e = .invalidSync := by
  cases e <;> decide

/-- What CLASSIFY can log (R195, R197, R200). -/
def classifyLogs : List Code := [.illegalId, .staleAck, .duplicate]

/-- `t` has logged, after the actions of `s`, only the codes listed. -/
def LogsOnly (codes : List Code) (s t : State) : Prop :=
  ∃ acts, t.out = s.out ++ acts ∧ ∀ c, Action.log c ∈ acts → c ∈ codes

section LogsOnly
variable {codes : List Code} {s t : State}

theorem LogsOnly.of_silent (h : t.out = s.out) : LogsOnly codes s t := ⟨[], by simp [h], by simp⟩

theorem LogsOnly.of_log {c : Code} (hout : t.out = s.out ++ [.log c]) (hc : c ∈ codes) : LogsOnly codes s t :=
  ⟨_, hout, by simp [hc]⟩

/-- Whatever list of actions is told apart from the earlier ones, it holds only the codes listed. -/
theorem LogsOnly.mem {acts : List Action} {c : Code} (h : LogsOnly codes s t) (hout : t.out = s.out ++ acts)
    (hc : .log c ∈ acts) : c ∈ codes := by
  obtain ⟨acts', hout', hcodes⟩ := h
  exact hcodes c (List.append_cancel_left (hout'.symm.trans hout) ▸ hc)

end LogsOnly

theorem logsOnly_ackCase (f : Frame) (s : State) : LogsOnly classifyLogs s (ackCase f s) := by
  obtain ⟨g, -, -, heq⟩ | ⟨-, heq⟩ := ackCase_cases f s <;> rw [heq]
  · refine ⟨_, ackMatch_out g s, fun c hc => ?_⟩
    split at hc <;> simp at hc
  · exact .of_log (emit_out ..) (by decide)

theorem logsOnly_dataCase (isEnd : Bool) (f : Frame) (s : State) : LogsOnly classifyLogs s (dataCase isEnd f s) := by
  obtain ⟨-, heq⟩ | ⟨-, heq⟩ := dataCase_cases isEnd f s <;> rw [heq]
  · rw [reAck_eq]
    exact ⟨_, rfl, by simp [classifyLogs]⟩
  · rw [newData_eq]
    refine ⟨_, List.append_assoc _ _ _, fun c hc => ?_⟩
    split at hc <;> simp at hc

theorem logsOnly_classify (f : Frame) (s : State) : LogsOnly classifyLogs s (classify f s) := by
  obtain ⟨-, heq⟩ | ⟨-, -, heq⟩ | ⟨-, -, -, heq⟩ | ⟨-, -, -, heq⟩ := classify_cases f s <;> rw [heq]
  · exact .of_log (emit_out ..) (by decide)
  · exact ⟨_, abort_out .., by simp⟩
  · exact logsOnly_ackCase f s
  · exact logsOnly_dataCase _ f s

/-- Settles O39. A read without a marker pair logs `NoSyncFound`; with one, DECODE passes check (b), and CLASSIFY does
not log decode errors. -/
theorem readNeverReportsInvalidSync : Obligations.ReadNeverReportsInvalidSync := by
  intro chunk s t acts hexec hout hmem
  obtain ⟨-, heq⟩ | ⟨-, -, -, heq⟩ | ⟨-, -, n, hscan, heq⟩ := execRxRead_cases chunk s <;> cases heq.symm.trans hexec
  · exact absurd ((LogsOnly.of_silent (codes := []) rfl).mem hout hmem) (by simp)
  · exact absurd ((LogsOnly.of_log rfl (List.mem_singleton_self _)).mem hout hmem) (by decide)
  · obtain ⟨-, heq⟩ | ⟨-, e, hdec, heq⟩ | ⟨-, f, -, heq⟩ := receiveWith_cases classify ((s.carry ++ chunk).drop n) s
    · exact absurd ((LogsOnly.of_silent (codes := []) (congrArg State.out heq)).mem hout hmem) (by simp)
    · have hcode := (LogsOnly.of_log (congrArg State.out heq) (List.mem_singleton_self _)).mem hout hmem
      have he : e = .invalidSync := e.code_eq_invalidSync_iff.1 (List.mem_singleton.1 hcode).symm
      exact decodeFrame_ne_invalidSync (take_drop_of_scan hscan) (he ▸ hdec)
    · have hlogs := logsOnly_classify f { s with carry := [] }
      rw [← heq] at hlogs
      exact absurd (hlogs.mem hout hmem) (by decide)

/-! ## A frame that fails a check (R130) -/

/-- The marker of a frame's bytes is right when both of its copies are (R82, R124). -/
theorem frameBytes_marker_eq_iff {sync : U32} {ty : FrameType} {h : Header} {p : Bytes} :
    (frameBytes ty h p).take 8 = mark sync ↔ h.sync1 = sync ∧ h.sync2 = sync := by
  rw [frameBytes_marker]
  constructor
  · intro heq
    obtain ⟨h1, h2⟩ := List.append_inj heq rfl
    exact ⟨be32_injective h1, be32_injective h2⟩
  · rintro ⟨rfl, h2⟩
    rw [h2]
    rfl

theorem ackSet_flagsByte (ty : FrameType) (reserved : BitVec 5) :
    ackSet (flagsByte ty reserved) = ty.bits.getLsbD 2 := by
  revert reserved; cases ty <;> decide

theorem endSet_flagsByte (ty : FrameType) (reserved : BitVec 5) :
    endSet (flagsByte ty reserved) = ty.bits.getLsbD 1 := by
  revert reserved; cases ty <;> decide

/-- The two types that have both `ACK` and `END` fail check (d), whatever the length (R91). -/
theorem flagsIllegal_of_illegalType {ty : FrameType} (hty : ty = .illegalAckEnd ∨ ty = .illegalAckEndRst)
    (reserved : BitVec 5) (length : U16) : flagsIllegal (flagsByte ty reserved) length = true := by
  rw [flagsIllegal_iff, ackSet_flagsByte, endSet_flagsByte]
  obtain rfl | rfl := hty
  · exact ⟨rfl, .inl rfl⟩
  · exact ⟨rfl, .inl rfl⟩

/-- The meaning of the two illegal types is a reception like that of the others: DECODE never succeeds, so it does not
matter what a frame that decodes would go on to. -/
theorem rejectIllegalFlags_eq_receiveWith (k : Frame → State → State) {ty : FrameType}
    (hty : ty = .illegalAckEnd ∨ ty = .illegalAckEndRst) (h : Header) (p : Bytes) (s : State) :
    rejectIllegalFlags h p s = receiveWith k (frameBytes ty h p) s := by
  have hlen : 15 ≤ (frameBytes ty h p).length := by simp
  rw [rejectIllegalFlags, receiveWith]
  by_cases hopen : s.conn ≠ .opened
  · rw [if_pos hopen, if_pos hopen]
  rw [if_neg hopen, if_neg hopen]
  by_cases hmark : h.sync1 = s.cfg.sync ∧ h.sync2 = s.cfg.sync
  · obtain ⟨hsync1, hsync2⟩ := hmark
    by_cases hfield : h.length.toNat = p.length
    · rw [decodeFrame_of_flagsIllegal hsync1 hsync2 hfield (flagsIllegal_of_illegalType hty _ _)]
      simp [hsync1, hsync2, hfield, DecodeError.code]
    · rw [decodeFrame_of_lengthMismatch hlen (frameBytes_marker_eq_iff.2 ⟨hsync1, hsync2⟩)
        (by simpa [frameBytes_lengthField] using hfield)]
      simp [hsync1, hsync2, hfield, DecodeError.code]
  · rw [decodeFrame_of_invalidSync hlen (mt frameBytes_marker_eq_iff.1 hmark), if_pos (not_and_or.1 hmark)]
    rfl

/-- Every frame instruction is a reception of its frame's bytes (R86). -/
theorem exec_ofFrame (ty : FrameType) (h : Header) (p : Bytes) (s : State) :
    ∃ k, exec (.ofFrame ty h p) s = .next (receiveWith k (frameBytes ty h p) s) := by
  cases ty with
  | data | dataEnd | ack | rst | rstEnd | rstAck => exact ⟨_, rfl⟩
  | illegalAckEnd => exact ⟨classify, congrArg _ (rejectIllegalFlags_eq_receiveWith _ (.inl rfl) h p s)⟩
  | illegalAckEndRst => exact ⟨classify, congrArg _ (rejectIllegalFlags_eq_receiveWith _ (.inr rfl) h p s)⟩

/-- Settles O48: every frame type is a reception, and a reception drops what does not decode. -/
theorem frameThatFailsACheckIsDropped : Obligations.FrameThatFailsACheckIsDropped := by
  intro ty h p s e hopen hdec
  obtain ⟨k, hexec⟩ := exec_ofFrame ty h p s
  rw [hexec]
  obtain ⟨hclosed, -⟩ | ⟨-, e', hdec', heq⟩ | ⟨-, f, hdec', -⟩ := receiveWith_cases k (frameBytes ty h p) s
  · exact absurd hopen hclosed
  · cases hdec'.symm.trans hdec
    rw [heq]
  · cases hdec'.symm.trans hdec

end Sys2Proof.Machine
end

section
/-! Proofs for the statements on 42_resync.md: the offset that SCAN answers (R141), what it does not depend on (R146), and
RX_READ in each of its cases (R142 to R145). -/

namespace Sys2Proof.Machine

/-! ## The offset that SCAN answers (R141) -/

section Scan
variable {m b : Bytes}

theorem scan_cons_of_ne {x : Byte} (h : (x :: b).take 8 ≠ m) : scan m (x :: b) = (scan m b).map (· + 1) :=
  if_neg h

/-- SCAN passes over a stretch in which no pair begins. -/
theorem scan_eq_map_scan_drop {n : Nat} (h : ∀ q < n, (b.drop q).take 8 ≠ m) :
    scan m b = (scan m (b.drop n)).map (· + n) := by
  induction b generalizing n with
  | nil => simp [scan_nil]
  | cons x xs ih =>
    cases n with
    | zero => simp
    | succ n =>
      obtain ⟨hx, hxs⟩ := Nat.forall_lt_succ_left.1 h
      rw [scan_cons_of_ne hx, ih hxs, Option.map_map]
      rfl

theorem scan_eq_some_of_first (hm : m ≠ []) {p : Nat} (hp : (b.drop p).take 8 = m)
    (hfirst : ∀ q < p, (b.drop q).take 8 ≠ m) : scan m b = some p := by
  have hne : b.drop p ≠ [] := fun hnil => hm (by rw [← hp, hnil, List.take_nil])
  rw [scan_eq_map_scan_drop hfirst, scan_of_prefix hp hne, Option.map_some, Nat.zero_add]

/-- When a pair stands somewhere, SCAN answers, and no later than there. -/
theorem exists_scan_eq_some_le (hm : m ≠ []) {q : Nat} (hq : (b.drop q).take 8 = m) : ∃ p ≤ q, scan m b = some p := by
  have hex : ∃ q, (b.drop q).take 8 = m := ⟨q, hq⟩
  exact ⟨Nat.find hex, Nat.find_min' hex hq, scan_eq_some_of_first hm (Nat.find_spec hex) fun _ => Nat.find_min hex⟩

theorem scan_eq_some_iff (hm : m ≠ []) {p : Nat} :
    scan m b = some p ↔ (b.drop p).take 8 = m ∧ ∀ q < p, (b.drop q).take 8 ≠ m := by
  refine ⟨fun hscan => ⟨take_drop_of_scan hscan, fun q hlt hq => ?_⟩, fun ⟨hp, hfirst⟩ =>
    scan_eq_some_of_first hm hp hfirst⟩
  obtain ⟨p', hle, hscan'⟩ := exists_scan_eq_some_le hm hq
  cases hscan.symm.trans hscan'
  exact absurd hlt (Nat.not_lt.2 hle)

theorem scan_eq_none_iff (hm : m ≠ []) : scan m b = none ↔ ∀ q, (b.drop q).take 8 ≠ m := by
  refine ⟨fun hnone q hq => ?_, fun h => Option.eq_none_iff_forall_ne_some.2 fun p hscan =>
    h p (take_drop_of_scan hscan)⟩
  obtain ⟨p, -, hscan⟩ := exists_scan_eq_some_le hm hq
  exact nomatch hnone.symm.trans hscan

end Scan

theorem mark_ne_nil (sync : U32) : mark sync ≠ [] := nofun

/-- A pair that stands at an offset stands there whole. -/
theorem length_of_take_drop_eq_mark {sync : U32} {b : Bytes} {p : Nat} (h : (b.drop p).take 8 = mark sync) :
    p + 8 ≤ b.length := by
  have hlen := congrArg List.length h
  simp only [List.length_take, List.length_drop, mark_length] at hlen
  omega

/-- Settles O32: SCAN looks for the pair at every offset in turn, and where it is found it is whole. -/
theorem scanFindsTheFirstMarkerPair : Obligations.ScanFindsTheFirstMarkerPair := by
  intro sync b
  refine ⟨fun p => ?_, ?_⟩
  · rw [scan_eq_some_iff (mark_ne_nil sync)]
    exact ⟨fun ⟨hp, hfirst⟩ => ⟨length_of_take_drop_eq_mark hp, hp, hfirst⟩, And.right⟩
  · rw [scan_eq_none_iff (mark_ne_nil sync)]
    exact ⟨fun h p _ => h p, fun h p hp => h p (length_of_take_drop_eq_mark hp) hp⟩

/-! ## Seven kept bytes (R146)

A marker pair has eight bytes, so the bytes before the last seven can only begin one that stands whole among the bytes
already read. -/

/-- What follows a buffer without a marker pair completes no pair that begins before the last seven bytes. -/
theorem take_drop_append_ne_mark {sync : U32} {b : Bytes} (c : Bytes) (h : scan (mark sync) b = none) {q : Nat}
    (hq : q < b.length - 7) : ((b ++ c).drop q).take 8 ≠ mark sync := by
  rw [List.drop_append_of_le_length (by omega), List.take_append_of_le_length (by simp; omega)]
  exact (scan_eq_none_iff (mark_ne_nil sync)).1 h q

theorem lastSeven_append_eq_drop (b c : Bytes) : lastSeven b ++ c = (b ++ c).drop (b.length - 7) :=
  (List.drop_append_of_le_length (Nat.sub_le _ _)).symm

/-- The last seven bytes do not change when bytes before them are dropped. -/
theorem lastSeven_drop {b : Bytes} {n : Nat} (h : n ≤ b.length - 7) : lastSeven (b.drop n) = lastSeven b := by
  rw [lastSeven, lastSeven, List.drop_drop, List.length_drop]
  congr 1
  omega

/-- Settles O33: the kept bytes and what follows are the whole buffer without a stretch that SCAN passes over. -/
theorem sevenKeptBytesAreEnough : Obligations.SevenKeptBytesAreEnough := by
  intro sync b c hnone
  rw [lastSeven_append_eq_drop]
  constructor
  · rw [scan_eq_map_scan_drop fun q hq => take_drop_append_ne_mark c hnone hq, Option.map_map]
    exact congrArg (Option.map · _) (funext fun p => by simp [Nat.add_comm])
  · exact (lastSeven_drop (by simp; omega)).symm

/-! ## RX_READ on an open connection (R143 to R145) -/

/-- A read that completes no marker pair (R144). -/
theorem exec_rxRead_of_scan_none {chunk : Bytes} {s : State} (hopen : s.conn = .opened) (hne : chunk ≠ [])
    (hscan : scan (mark s.cfg.sync) (s.carry ++ chunk) = none) :
    exec (.rxRead chunk) s = .next
      { s with carry := lastSeven (s.carry ++ chunk), out := s.out ++ [.log .noSyncFound] } := by
  obtain ⟨hor, -⟩ | ⟨-, -, -, heq⟩ | ⟨-, -, p, hsome, -⟩ := execRxRead_cases chunk s
  · exact (hor.elim (absurd hopen) hne).elim
  · exact heq
  · exact nomatch hscan.symm.trans hsome

/-- A read that holds a marker pair hands on the bytes from there (R143). -/
theorem exec_rxRead_of_scan_some {chunk : Bytes} {s : State} {p : Nat} (hopen : s.conn = .opened) (hne : chunk ≠ [])
    (hscan : scan (mark s.cfg.sync) (s.carry ++ chunk) = some p) :
    exec (.rxRead chunk) s = .next (receiveCandidate ((s.carry ++ chunk).drop p) s) := by
  obtain ⟨hor, -⟩ | ⟨-, -, hnone, -⟩ | ⟨-, -, p', hsome, heq⟩ := execRxRead_cases chunk s
  · exact (hor.elim (absurd hopen) hne).elim
  · exact nomatch hscan.symm.trans hnone
  · cases hscan.symm.trans hsome
    exact heq

/-- A candidate that does not decode is dropped, whatever would be done with a frame (R145). -/
theorem receiveWith_of_decodeFrame_error {k : Frame → State → State} {cand : Bytes} {s : State} {e : DecodeError}
    (hopen : s.conn = .opened) (hdec : decodeFrame s.cfg.sync cand = .error e) :
    receiveWith k cand s = { s with carry := [], out := s.out ++ [.log e.code] } := by
  obtain ⟨hclosed, -⟩ | ⟨-, e', hdec', heq⟩ | ⟨-, f, hdec', -⟩ := receiveWith_cases k cand s
  · exact absurd hopen hclosed
  · cases hdec.symm.trans hdec'
    exact heq
  · exact nomatch hdec.symm.trans hdec'

/-- Settles O34, by the cases of RX_READ. -/
theorem readIsIgnoredWhenNotOpenOrEmpty : Obligations.ReadIsIgnoredWhenNotOpenOrEmpty := by
  intro chunk s hor
  obtain ⟨-, heq⟩ | ⟨hopen, hne, -⟩ | ⟨hopen, hne, -⟩ := execRxRead_cases chunk s
  · exact heq
  · exact (hor.elim (absurd hopen) hne).elim
  · exact (hor.elim (absurd hopen) hne).elim

/-- Settles O35: it is the case of RX_READ without a marker pair. -/
theorem readWithoutMarkerKeepsItsTail : Obligations.ReadWithoutMarkerKeepsItsTail :=
  fun _ _ hopen hne hscan => exec_rxRead_of_scan_none hopen hne hscan

/-- Settles O36: the bytes from the marker pair are a candidate that does not decode. -/
theorem readThatDoesNotDecodeIsDropped : Obligations.ReadThatDoesNotDecodeIsDropped :=
  fun _ _ _ _ hopen hne hscan hdec =>
    (exec_rxRead_of_scan_some hopen hne hscan).trans (congrArg _ (receiveWith_of_decodeFrame_error hopen hdec))

/-! ## The type bits select the meaning (R86, R94, R190)

CLASSIFY tests the bits `R`, `A` and `E` of a frame that decoded; they are the bits of its type, so the frame goes on to
the work of the type. -/

theorem rstSet_flagsByte (ty : FrameType) (reserved : BitVec 5) :
    rstSet (flagsByte ty reserved) = ty.bits.getLsbD 0 := by
  revert reserved; cases ty <;> decide

/-- The flags of a frame that decodes are those of its bytes (R122). -/
theorem flags_of_decodeFrame_frameBytes {sync : U32} {ty : FrameType} {h : Header} {p : Bytes} {f : Frame}
    (hdec : decodeFrame sync (frameBytes ty h p) = .ok f) : f.flags = flagsByte ty h.reserved := by
  obtain ⟨-, -, -, -, -, rfl⟩ := decodeFrame_ok hdec
  exact frameBytes_flags ty h p

section Classify
variable {f : Frame}

theorem classify_of_rst (hrst : rstSet f.flags = true) :
    classify f = afterIdCheck true (fun f s => abortRst f.payload s) f := by
  funext s
  simp [classify, afterIdCheck, hrst]

theorem classify_of_ack (hrst : rstSet f.flags = false) (hack : ackSet f.flags = true) :
    classify f = afterIdCheck false ackCase f := by
  funext s
  simp [classify, afterIdCheck, hrst, hack]

theorem classify_of_data (hrst : rstSet f.flags = false) (hack : ackSet f.flags = false) :
    classify f = afterIdCheck false (dataCase (endSet f.flags)) f := by
  funext s
  simp [classify, afterIdCheck, hrst, hack]

end Classify

/-- A reception depends on its continuation only for the frame that the candidate decodes to. -/
theorem receiveWith_congr {k k' : Frame → State → State} {cand : Bytes} {s : State}
    (h : ∀ f, decodeFrame s.cfg.sync cand = .ok f → k f = k' f) : receiveWith k cand s = receiveWith k' cand s := by
  cases hdec : decodeFrame s.cfg.sync cand with
  | error e => simp [receiveWith, hdec]
  | ok f => simp [receiveWith, hdec, h f hdec]

section TypeBits
variable (h : Header) (p : Bytes) (s : State)

/-- A type without `R` and `A` is classified as data, with its `E` bit. -/
theorem receiveCandidate_frameBytes_of_data {ty : FrameType} (hrst : ty.bits.getLsbD 0 = false)
    (hack : ty.bits.getLsbD 2 = false) :
    receiveCandidate (frameBytes ty h p) s =
      receiveWith (afterIdCheck false (dataCase (ty.bits.getLsbD 1))) (frameBytes ty h p) s := by
  refine receiveWith_congr fun f hdec => ?_
  have hflags := flags_of_decodeFrame_frameBytes hdec
  rw [classify_of_data (by rw [hflags, rstSet_flagsByte, hrst]) (by rw [hflags, ackSet_flagsByte, hack]), hflags,
    endSet_flagsByte]

/-- A type with `A` and without `R` is classified as an acknowledgment. -/
theorem receiveCandidate_frameBytes_of_ack {ty : FrameType} (hrst : ty.bits.getLsbD 0 = false)
    (hack : ty.bits.getLsbD 2 = true) :
    receiveCandidate (frameBytes ty h p) s = receiveWith (afterIdCheck false ackCase) (frameBytes ty h p) s := by
  refine receiveWith_congr fun f hdec => ?_
  have hflags := flags_of_decodeFrame_frameBytes hdec
  exact classify_of_ack (by rw [hflags, rstSet_flagsByte, hrst]) (by rw [hflags, ackSet_flagsByte, hack])

/-- A type with `R` is classified as an abort, whatever its other bits (R92). -/
theorem receiveCandidate_frameBytes_of_rst {ty : FrameType} (hrst : ty.bits.getLsbD 0 = true) :
    receiveCandidate (frameBytes ty h p) s =
      receiveWith (afterIdCheck true fun f s => abortRst f.payload s) (frameBytes ty h p) s := by
  refine receiveWith_congr fun f hdec => ?_
  exact classify_of_rst (by rw [flags_of_decodeFrame_frameBytes hdec, rstSet_flagsByte, hrst])

/-- Executing a frame instruction is receiving its bytes as RX_READ does. -/
theorem exec_ofFrame_eq_receiveCandidate (ty : FrameType) :
    exec (.ofFrame ty h p) s = .next (receiveCandidate (frameBytes ty h p) s) := by
  cases ty with
  | data | dataEnd => exact congrArg _ (receiveCandidate_frameBytes_of_data h p s rfl rfl).symm
  | ack => exact congrArg _ (receiveCandidate_frameBytes_of_ack h p s rfl rfl).symm
  | rst | rstEnd | rstAck => exact congrArg _ (receiveCandidate_frameBytes_of_rst h p s rfl).symm
  | illegalAckEnd => exact congrArg _ (rejectIllegalFlags_eq_receiveWith classify (.inl rfl) h p s)
  | illegalAckEndRst => exact congrArg _ (rejectIllegalFlags_eq_receiveWith classify (.inr rfl) h p s)

end TypeBits

/-- Bytes that are read as an instruction are the bytes of a frame (R81, R94). -/
theorem eq_ofFrame_of_decode_frame {b : Bytes} {i : Instr} (h : decode (.frame b) = .ok i) :
    ∃ ty hd p, i = .ofFrame ty hd p ∧ b = frameBytes ty hd p := by
  by_cases hlen : b.length < 15
  · rw [decode, if_pos hlen] at h
    cases h
  · have hlen' := Nat.not_lt.1 hlen
    cases (decode_frame hlen').symm.trans h
    exact ⟨_, _, _, rfl, (frameBytes_of_bytes hlen').symm⟩

/-- Settles O37: the read hands the frame's bytes on, and the frame instruction receives the same bytes. -/
theorem readRunsTheFrameItFinds : Obligations.ReadRunsTheFrameItFinds := by
  intro chunk s p i hopen hne hscan hdec
  obtain ⟨ty, h, payload, rfl, hbytes⟩ := eq_ofFrame_of_decode_frame hdec
  rw [exec_rxRead_of_scan_some hopen hne hscan, hbytes, exec_ofFrame_eq_receiveCandidate]

end Sys2Proof.Machine
end

section
/-! Proofs for the statements on 43_arq_send.md: SEND (R161, R162), one outstanding frame (R164), TICK in each of its
cases (R165 to R168), the end of a frame that is never acknowledged (R169), and one round between two blocks (R160). -/

namespace Sys2Proof.Machine

/-! ## SEND (R161 to R163) -/

/-- A SEND that `send_ready` admits is accepted (R161). -/
theorem exec_send_of_sendReady {p : Bytes} {s : State} (l : Bool) (hready : s.sendReady = true)
    (hlen : p.length ≤ s.cfg.maxPayload.toNat) :
    exec (.send p l) s = .next (transmitNew (makeData s.cfg.sync p l s.outboundId) s) := by
  obtain ⟨hab, -⟩ | ⟨-, hno, -⟩ | ⟨-, -, heq⟩ := execSend_cases p l s
  · exact nomatch hab.symm.trans ((sendReady_iff s).1 hready).1
  · obtain hfalse | hlong := hno
    · exact nomatch hready.symm.trans hfalse
    · omega
  · exact heq

/-- The two ids of a data frame (R163). -/
theorem idOfBit_eq_ite (bit : SeqBit) : idOfBit bit = if bit = 1 then 1 else 0 := by
  revert bit
  decide

/-- Settles O49: the conditions are those of `send_ready`, and the frame is the one that `makeData` builds. -/
theorem acceptedSendTransmitsAndArms : Obligations.AcceptedSendTransmitsAndArms := by
  intro p l s hopen hnone hdone hlen
  rw [← idOfBit_eq_ite]
  exact exec_send_of_sendReady l ((sendReady_iff s).2 ⟨hopen, hnone, hdone⟩) hlen

/-- Settles O50, by the three cases of a SEND: each condition that it names excludes the accepted one. -/
theorem refusedSendChangesNothing : Obligations.RefusedSendChangesNothing := by
  intro p l s
  obtain ⟨hab, heq⟩ | ⟨hab, -, heq⟩ | ⟨hready, hlen, -⟩ := execSend_cases p l s
  · exact ⟨fun _ => heq, fun h => absurd hab h⟩
  · exact ⟨fun h => absurd h hab, fun _ _ => heq⟩
  · obtain ⟨hopen, hnone, hdone⟩ := (sendReady_iff s).1 hready
    refine ⟨fun hab => absurd (hopen.symm.trans hab) nofun, fun _ hor => ?_⟩
    obtain hclosed | hpend | hdone' | hlong := hor
    · exact nomatch hopen.symm.trans hclosed
    · exact absurd hnone hpend
    · exact nomatch hdone.symm.trans hdone'
    · omega

/-! ## One outstanding frame (R164) -/

/-- A received frame leaves the pending frame alone, aborts, or acknowledges it (R196, R198). -/
theorem Received.pending_cases {s t : State} {f : Bytes} (h : Received s t) (hpend : s.pending = some f) :
    t.pending = some f ∨ t.pending = none ∧ (t.conn = .aborted ∨
      ∃ rest, t.out = s.out ++ .sendOk :: rest ∧ t.outboundId = flipBit s.outboundId) := by
  cases h with
  | logged | duplicate => exact .inl hpend
  | delivered g isEnd => exact .inl (by rw [newData_eq]; exact hpend)
  | aborted => exact .inr ⟨rfl, .inl rfl⟩
  | acked g => exact .inr ⟨by rw [ackMatch_eq], .inr ⟨_, ackMatch_out g s, by rw [ackMatch_eq]⟩⟩

/-- Settles O13, by what an instruction can do: a SEND needs nothing pending, and a TICK sends the same frame again. -/
theorem oneOutstandingFrame : Obligations.OneOutstandingFrame := by
  intro i s t f hopen hpend hexec
  cases effect_of_exec hexec with
  | reset => exact .inr ⟨rfl, .inl rfl⟩
  | sendAborted p l hab => exact nomatch hopen.symm.trans hab
  | sent p l hready => exact nomatch hpend.symm.trans ((sendReady_iff s).1 hready).2.1
  | received _ _ hrec =>
    exact (hrec.pending_cases hpend).imp_right (And.imp_right .inr)
  | budgetSpent => exact .inr ⟨rfl, .inr (.inl rfl)⟩
  | ignored | noMarker | countedDown | retransmitted => exact .inl hpend

/-! ## TICK (R165 to R168) -/

section Tick
variable {s : State} {f : Bytes}

/-- A terminal state takes no TICK (R165). -/
theorem exec_tick_of_not_opened (hterm : s.conn ≠ .opened) : exec .tick s = .next s := by
  obtain ⟨-, heq⟩ | ⟨f, hopen, -⟩ := execTick_cases s
  · exact heq
  · exact absurd hopen hterm

/-- With a frame pending and the timer not at its last tick, a TICK counts down (R166). -/
theorem exec_tick_of_counting (hopen : s.conn = .opened) (hpend : s.pending = some f) (hne : s.rtxTimer ≠ 1) :
    exec .tick s = .next { s with rtxTimer := s.rtxTimer - 1 } := by
  obtain ⟨hidle | hidle, -⟩ | ⟨g, -, -, ⟨-, heq⟩ | ⟨hone, -⟩ | ⟨hone, -⟩⟩ := execTick_cases s
  · exact absurd hopen hidle
  · exact nomatch hidle.symm.trans hpend
  · exact heq
  · exact absurd hone hne
  · exact absurd hone hne

/-- An expiry with the budget spent aborts (R168). -/
theorem exec_tick_of_budgetSpent (hopen : s.conn = .opened) (hpend : s.pending = some f) (hone : s.rtxTimer = 1)
    (hspent : s.cfg.retryLimit ≤ s.retryCount.toNat) :
    exec .tick s = .next
      { s with
        conn := .aborted, abortCause := .retryBudgetExhausted, pending := none, rtxTimer := 0,
        out := s.out ++ [.tx (makeRst s.cfg), .aborted .retryBudgetExhausted s.cfg.rstMsg] } := by
  obtain ⟨hidle | hidle, -⟩ | ⟨g, -, -, ⟨hne, -⟩ | ⟨-, hretry, -⟩ | ⟨-, -, heq⟩⟩ := execTick_cases s
  · exact absurd hopen hidle
  · exact nomatch hidle.symm.trans hpend
  · exact absurd hone hne
  · omega
  · exact heq

end Tick

/-- Settles O52. -/
theorem tickWithNothingPendingDoesNothing : Obligations.TickWithNothingPendingDoesNothing :=
  fun _ hor => hor.elim exec_tick_of_not_opened exec_tick_of_idle

/-- Settles O53: a timer above 1 is no expiry. -/
theorem tickCountsDownAndRetransmits : Obligations.TickCountsDownAndRetransmits := by
  intro s f hopen hpend
  refine ⟨fun hgt => exec_tick_of_counting hopen hpend fun hone => ?_, exec_tick_of_expiry hopen hpend⟩
  have := counter_eq_one_iff.1 hone
  omega

/-- Settles O54: the frame written out is the reset frame (R173). -/
theorem tickWithBudgetSpentAborts : Obligations.TickWithBudgetSpentAborts :=
  fun _ _ hopen hpend hone hspent => exec_tick_of_budgetSpent hopen hpend hone hspent.ge

/-! ## A run of nothing but TICKs (R169) -/

/-- Nothing but `n` TICKs presented. -/
def State.withTicks (s : State) (n : Nat) : State := { s with inbox := List.replicate n (encode .tick) }

/-- A run that answers a next state is continued from there. -/
theorem run_add_of_run_eq_next {M : Host.Core} {m : Nat} {s t : M.State} (h : M.run m s = .next t) (n : Nat) :
    M.run (m + n) s = M.run n t := by
  induction m generalizing s with
  | zero =>
    cases h
    rw [Nat.zero_add]
  | succ m ih =>
    rw [Nat.succ_add, Host.Core.run]
    rw [Host.Core.run] at h
    cases hstep : M.step s with
    | next u =>
      rw [hstep] at h
      exact ih h
    | fault | refused =>
      rw [hstep] at h
      cases h

theorem run_one {M : Host.Core} {s t : M.State} (h : M.step s = .next t) : M.run 1 s = .next t := by
  simp [Host.Core.run, h]

/-- `n` TICKs take `s` to `t`, whatever the number of TICKs presented after them. -/
def TicksTo (n : Nat) (s t : State) : Prop :=
  ∀ m, Sys2Proof.core.run n (s.withTicks (n + m)) = .next (t.withTicks m)

theorem TicksTo.refl (s : State) : TicksTo 0 s s := fun m => by
  rw [Nat.zero_add]
  rfl

theorem TicksTo.trans {m n : Nat} {s t u : State} (hst : TicksTo m s t) (htu : TicksTo n t u) :
    TicksTo (m + n) s u := fun k => by
  rw [Nat.add_assoc m n k]
  exact (run_add_of_run_eq_next (hst (n + k)) n).trans (htu k)

/-- One TICK is one step (R8). -/
theorem TicksTo.one {s t : State} (h : ∀ m, exec .tick (s.withTicks m) = .next (t.withTicks m)) :
    TicksTo 1 s t := fun m => by
  rw [Nat.add_comm]
  exact run_one ((step_of_decode_ok (s := s.withTicks (m + 1)) rfl (decodeOfEncodeIsTheInstruction .tick)).trans (h m))

/-! ## A frame that is never acknowledged (R169) -/

/-- Counters count as their numbers do. -/
theorem counter_ofNat_succ (limit n : Nat) :
    (BitVec.ofNat _ (n + 1) : Counter limit) = BitVec.ofNat _ n + 1 :=
  BitVec.ofNat_add ..

/-- `t` after `k` retransmissions of `f` and `j` TICKs of the interval that is running. -/
def State.unacknowledged (t : State) (f : Bytes) (k j : Nat) : State :=
  { t with
    retryCount := BitVec.ofNat _ k, rtxTimer := BitVec.ofNat _ (t.cfg.rtoTicks - j),
    out := t.out ++ List.replicate k (.tx f) }

/-- Right after the SEND there is no retransmission and no TICK. -/
theorem unacknowledged_transmitNew (f : Bytes) (s : State) :
    (transmitNew f s).unacknowledged f 0 0 = transmitNew f s := by
  simp [State.unacknowledged, transmitNew, State.emit, fullCount]

section Unacknowledged
variable {t : State} {f : Bytes} {k j : Nat}

theorem unacknowledged_rtxTimer_toNat (t : State) (f : Bytes) (k j : Nat) :
    (t.unacknowledged f k j).rtxTimer.toNat = t.cfg.rtoTicks - j :=
  ofNat_counter (Nat.sub_le _ _)

theorem unacknowledged_retryCount_toNat (t : State) (f : Bytes) (j : Nat) (hk : k ≤ t.cfg.retryLimit) :
    (t.unacknowledged f k j).retryCount.toNat = k :=
  ofNat_counter hk

/-- The timer stands at 1 on the last TICK of an interval only. -/
theorem unacknowledged_rtxTimer_eq_one_iff (t : State) (f : Bytes) (k j : Nat) :
    (t.unacknowledged f k j).rtxTimer = 1 ↔ j + 1 = t.cfg.rtoTicks := by
  refine counter_eq_one_iff.trans ?_
  rw [unacknowledged_rtxTimer_toNat]
  omega

/-- Counting down within an interval. -/
theorem unacknowledged_countDown (t : State) (f : Bytes) (k : Nat) (hj : j < t.cfg.rtoTicks) :
    (t.unacknowledged f k j).rtxTimer - 1 = (t.unacknowledged f k (j + 1)).rtxTimer := by
  have hleft : t.cfg.rtoTicks - j = t.cfg.rtoTicks - (j + 1) + 1 := by omega
  show BitVec.ofNat (counterWidth t.cfg.rtoTicks) (t.cfg.rtoTicks - j) - 1 = _
  rw [hleft, counter_ofNat_succ, add_sub_cancel_right]
  rfl

/-- A retransmission begins the next interval. -/
theorem retransmit_unacknowledged (t : State) (f : Bytes) (k j m : Nat) :
    retransmit f ((t.unacknowledged f k j).withTicks m) = (t.unacknowledged f (k + 1) 0).withTicks m := by
  have hcount := counter_ofNat_succ t.cfg.retryLimit k
  have hout : t.out ++ List.replicate (k + 1) (.tx f) = t.out ++ List.replicate k (.tx f) ++ [.tx f] := by
    rw [List.replicate_succ', List.append_assoc]
  simp only [State.unacknowledged, hcount, hout]
  rfl

variable (hopen : t.conn = .opened) (hpend : t.pending = some f)
include hopen hpend

/-- A TICK within an interval (R166). -/
theorem ticksTo_countDown (k : Nat) (hj : j + 1 < t.cfg.rtoTicks) :
    TicksTo 1 (t.unacknowledged f k j) (t.unacknowledged f k (j + 1)) := .one fun m => by
  have hne : (t.unacknowledged f k j).rtxTimer ≠ 1 := fun hone =>
    hj.ne ((unacknowledged_rtxTimer_eq_one_iff t f k j).1 hone)
  refine (exec_tick_of_counting (s := (t.unacknowledged f k j).withTicks m) hopen hpend hne).trans ?_
  exact congrArg (fun c => Host.Outcome.next { (t.unacknowledged f k j).withTicks m with rtxTimer := c })
    (unacknowledged_countDown t f k (Nat.lt_of_succ_lt hj))

/-- The TICK that ends an interval within the budget (R167). -/
theorem ticksTo_retransmit (hk : k < t.cfg.retryLimit) (hj : j + 1 = t.cfg.rtoTicks) :
    TicksTo 1 (t.unacknowledged f k j) (t.unacknowledged f (k + 1) 0) := .one fun m => by
  have hretry := (unacknowledged_retryCount_toNat t f j hk.le).trans_lt hk
  rw [← retransmit_unacknowledged t f k j m]
  exact exec_tick_of_expiry (s := (t.unacknowledged f k j).withTicks m) hopen hpend
    ((unacknowledged_rtxTimer_eq_one_iff t f k j).2 hj) hretry

/-- Part of an interval, by induction on its TICKs. -/
theorem ticksTo_within_interval (k : Nat) (hj : j < t.cfg.rtoTicks) :
    TicksTo j (t.unacknowledged f k 0) (t.unacknowledged f k j) := by
  induction j with
  | zero => exact .refl _
  | succ j ih => exact (ih (by omega)).trans (ticksTo_countDown hopen hpend k hj)

/-- A whole interval within the budget. -/
theorem ticksTo_next_interval (hk : k < t.cfg.retryLimit) :
    TicksTo t.cfg.rtoTicks (t.unacknowledged f k 0) (t.unacknowledged f (k + 1) 0) := by
  have hpos := t.cfg.rtoTicks_pos
  have hlast : t.cfg.rtoTicks - 1 + 1 = t.cfg.rtoTicks := by omega
  have hticks := (ticksTo_within_interval hopen hpend k (j := t.cfg.rtoTicks - 1) (by omega)).trans
    (ticksTo_retransmit hopen hpend hk hlast)
  rwa [hlast] at hticks

/-- `k` whole intervals, by induction on the retransmissions. -/
theorem ticksTo_intervals (hk : k ≤ t.cfg.retryLimit) :
    TicksTo (k * t.cfg.rtoTicks) (t.unacknowledged f 0 0) (t.unacknowledged f k 0) := by
  induction k with
  | zero =>
    rw [Nat.zero_mul]
    exact .refl _
  | succ k ih =>
    rw [Nat.succ_mul]
    exact (ih (by omega)).trans (ticksTo_next_interval hopen hpend hk)

/-- `k` whole intervals and `j` TICKs more. -/
theorem ticksTo_unacknowledged (hk : k ≤ t.cfg.retryLimit) (hj : j < t.cfg.rtoTicks) :
    TicksTo (k * t.cfg.rtoTicks + j) (t.unacknowledged f 0 0) (t.unacknowledged f k j) :=
  (ticksTo_intervals hopen hpend hk).trans (ticksTo_within_interval hopen hpend k hj)

/-- The TICK that ends the last interval (R168). -/
theorem ticksTo_abort (hj : j + 1 = t.cfg.rtoTicks) :
    TicksTo 1 (t.unacknowledged f t.cfg.retryLimit j)
      { t with
        conn := .aborted, abortCause := .retryBudgetExhausted, pending := none, rtxTimer := 0,
        retryCount := fullCount t.cfg.retryLimit,
        out := t.out ++ List.replicate t.cfg.retryLimit (.tx f) ++
          [.tx (makeRst t.cfg), .aborted .retryBudgetExhausted t.cfg.rstMsg] } := .one fun m =>
  exec_tick_of_budgetSpent (s := (t.unacknowledged f t.cfg.retryLimit j).withTicks m) hopen hpend
    ((unacknowledged_rtxTimer_eq_one_iff t f t.cfg.retryLimit j).2 hj) (unacknowledged_retryCount_toNat t f j le_rfl).ge

end Unacknowledged

/-- A SEND that makes a frame pending has transmitted it. -/
theorem eq_transmitNew_of_exec_send {p : Bytes} {l : Bool} {s t : State} {f : Bytes} (hnone : s.pending = none)
    (hexec : exec (.send p l) s = .next t) (hpend : t.pending = some f) : t = transmitNew f s := by
  obtain ⟨-, heq⟩ | ⟨-, -, heq⟩ | ⟨-, -, heq⟩ := execSend_cases p l s <;> cases heq.symm.trans hexec
  · exact nomatch hnone.symm.trans hpend
  · exact nomatch hnone.symm.trans hpend
  · cases hpend
    rfl

/-- Settles O56: `RETRY_LIMIT` intervals end in a retransmission, and the one after them in the abort. -/
theorem unacknowledgedFrameEndsInAbort : Obligations.UnacknowledgedFrameEndsInAbort := by
  intro s t p l f hopen hnone hexec hpend
  obtain rfl := eq_transmitNew_of_exec_send hnone hexec hpend
  have hopen' : (transmitNew f s).conn = .opened := hopen
  have hpos := (transmitNew f s).cfg.rtoTicks_pos
  have hlast : (transmitNew f s).cfg.rtoTicks - 1 + 1 = (transmitNew f s).cfg.rtoTicks := by omega
  refine ⟨transmitNew_out f s, fun k j hk hj => ?_, ?_⟩
  · have hticks := ticksTo_unacknowledged hopen' hpend hk hj
    rw [unacknowledged_transmitNew] at hticks
    exact hticks 0
  · have hticks := (ticksTo_unacknowledged hopen' hpend le_rfl (Nat.sub_one_lt_of_le hpos le_rfl)).trans
      (ticksTo_abort hopen' hpend hlast)
    rw [unacknowledged_transmitNew, Nat.add_assoc, hlast, ← Nat.succ_mul] at hticks
    exact hticks 0

/-! ## One round between two blocks (R160) -/

theorem clearCarry_of_nil {s : State} (h : s.carry = []) : s.clearCarry = s := by
  rw [State.clearCarry, ← h]

/-- A block with no kept bytes classifies a read that is one whole frame (R143). -/
theorem exec_rxRead_of_decodeFrame {s : State} {b : Bytes} {g : Frame} (hopen : s.conn = .opened)
    (hcarry : s.carry = []) (hdec : decodeFrame s.cfg.sync b = .ok g) :
    exec (.rxRead b) s = .next (classify g s) := by
  obtain ⟨hlen, hmark, -⟩ := decodeFrame_ok hdec
  have hne : b ≠ [] := fun hnil => by simp [hnil] at hlen
  have hscan : scan (mark s.cfg.sync) (s.carry ++ b) = some 0 := by
    rw [hcarry]
    exact scan_of_prefix hmark hne
  rw [exec_rxRead_of_scan_some hopen hne hscan, hcarry]
  simp [receiveCandidate, receiveWith, hopen, hdec, clearCarry_of_nil hcarry]

/-- The wire id tells the two sequence bits apart (R163). -/
theorem idOfBit_inj {x y : SeqBit} : idOfBit x = idOfBit y ↔ x = y := by
  revert x y
  decide

/-- The flags of a data frame: neither `RST` nor `ACK`, and `END` for the last payload (R161). -/
theorem dataFlags (l : Bool) :
    rstSet (if l then flagEnd else 0) = false ∧ ackSet (if l then flagEnd else 0) = false ∧
      endSet (if l then flagEnd else 0) = l := by
  cases l <;> decide

/-- The `END` bit of a data frame marks the last payload (R161). -/
theorem endSet_makeData (sync : U32) (p : Bytes) (l : Bool) (bit : SeqBit) :
    endSet (byteAt (makeData sync p l bit) 14) = l :=
  (dataFlags l).2.2

/-- A new data frame is delivered before it is acknowledged (R201). -/
theorem newData_out (g : Frame) (isEnd : Bool) (s : State) :
    (newData g isEnd s).out = s.out ++ .deliver g.payload :: .tx (makeAck s.cfg.sync g.id) ::
      if s.sendDone && (s.recvDone || isEnd) then [.closed] else [] := by
  rw [newData_eq]
  simp

/-- A data frame decodes to what it was built from (R121, R163). -/
theorem decodeFrame_makeData {sync : U32} {p : Bytes} (l : Bool) (bit : SeqBit) (hlen : p.length ≤ 65535) :
    ∃ g, decodeFrame sync (makeData sync p l bit) = .ok g ∧ g.payload = p ∧ g.id = idOfBit bit ∧
      g.checksum = be16At (makeData sync p l bit) 8 ∧
      rstSet g.flags = false ∧ ackSet g.flags = false ∧ endSet g.flags = l := by
  obtain ⟨hrst, hack, hend⟩ := dataFlags l
  exact ⟨_, decodeFrame_encodeFrame hlen (flagsIllegal_of_not_ack hack _), rfl, rfl,
    (encodeFrame_checksum ..).symm, hrst, hack, hend⟩

/-- A data frame that is not the one last delivered is read as new (R199, R201). -/
theorem exec_rxRead_makeData {s : State} {p : Bytes} {l : Bool} {bit : SeqBit} (hopen : s.conn = .opened)
    (hcarry : s.carry = []) (hlen : p.length ≤ 65535)
    (hnew : ∀ d, s.lastDelivered = some d →
      ¬(d.id = bit ∧ d.checksum = be16At (makeData s.cfg.sync p l bit) 8)) :
    ∃ g : Frame, g.payload = p ∧ g.id = idOfBit bit ∧
      exec (.rxRead (makeData s.cfg.sync p l bit)) s = .next (newData g l s) := by
  obtain ⟨g, hdec, hpayload, hid, hsum, hrst, hack, hend⟩ := decodeFrame_makeData (sync := s.cfg.sync) l bit hlen
  refine ⟨g, hpayload, hid, (exec_rxRead_of_decodeFrame hopen hcarry hdec).trans ?_⟩
  rw [classify_of_data hrst hack, hend, afterIdCheck, hid, idRefused_idOfBit, if_neg Bool.false_ne_true]
  obtain ⟨hdup, -⟩ | ⟨-, heq⟩ := dataCase_cases l g s
  · obtain ⟨d, hd, hid', hsum'⟩ := (isDuplicate_iff g s).1 hdup
    exact absurd ⟨idOfBit_inj.1 (hid'.symm.trans hid), hsum'.symm.trans hsum⟩ (hnew d hd)
  · rw [heq]

/-- The acknowledgment of the pending frame is read as a match (R197, R198). -/
theorem exec_rxRead_makeAck {s : State} {f : Bytes} (hopen : s.conn = .opened) (hcarry : s.carry = [])
    (hpend : s.pending = some f) :
    exec (.rxRead (makeAck s.cfg.sync (idOfBit s.outboundId))) s = .next (ackMatch f s) := by
  have hdec := decodeFrame_encodeFrame (sync := s.cfg.sync) (p := []) (id := idOfBit s.outboundId) (flags := flagAck)
    (Nat.zero_le _) (by decide)
  refine (exec_rxRead_of_decodeFrame hopen hcarry hdec).trans ?_
  rw [classify_of_ack (show rstSet flagAck = false by decide) (show ackSet flagAck = true by decide)]
  simp [afterIdCheck, idRefused_idOfBit, ackCase, hpend]

/-- Settles O57: the frame that the SEND transmits is new to `b`, whose acknowledgment carries the same id and so matches
the frame that `a` still has pending. -/
theorem oneRoundDeliversThePayload : Obligations.OneRoundDeliversThePayload := by
  intro a b a1 p l hsync hcarryA hcarryB hopenB hready hlen hsend
  obtain ⟨hopenA, -, hdone⟩ := (sendReady_iff a).1 hready
  cases (exec_send_of_sendReady l hready hlen).symm.trans hsend
  refine ⟨_, transmitNew_out _ a, fun hnew => ?_⟩
  have hmax := a.cfg.maxPayload.isLt
  rw [hsync] at hnew ⊢
  obtain ⟨g, rfl, hid, hread⟩ := exec_rxRead_makeData hopenB hcarryB (by omega) hnew
  have hack (f : Bytes) : exec (.rxRead (makeAck b.cfg.sync g.id)) (transmitNew f a) =
      .next (ackMatch f (transmitNew f a)) := by
    rw [hid, ← hsync]
    exact exec_rxRead_makeAck (s := transmitNew f a) hopenA hcarryA rfl
  refine ⟨_, _, _, hread, newData_out g l b, _, _, hack _, ackMatch_out _ _, ?_, ?_, ?_⟩ <;> rw [ackMatch_eq]
  · rfl
  · rw [endSet_makeData, transmitNew_sendDone, hdone, Bool.false_or]

end Sys2Proof.Machine
end

section
/-! Proofs for the statements on 44_arq_receive.md: the terminal states (R207), and what an intact frame of each type
does to an open connection (R195 to R201). -/

namespace Sys2Proof.Machine

/-! ## The terminal states (R207, R162) -/

section Terminal
variable {s : State}

/-- A terminal state ignores a candidate (R207). -/
theorem receiveWith_of_not_opened {k : Frame → State → State} {cand : Bytes} (hterm : s.conn ≠ .opened) :
    receiveWith k cand s = s :=
  if_pos hterm

theorem rejectIllegalFlags_of_not_opened {h : Header} {p : Bytes} (hterm : s.conn ≠ .opened) :
    rejectIllegalFlags h p s = s :=
  if_pos hterm

/-- A SEND is answered on an aborted connection and ignored on a closed one (R162). -/
theorem exec_send_of_not_opened (p : Bytes) (l : Bool) (hterm : s.conn ≠ .opened) :
    exec (.send p l) s = if s.conn = .aborted then .next { s with out := s.out ++ [.sendAborted] } else .next s := by
  obtain ⟨hab, heq⟩ | ⟨hab, -, heq⟩ | ⟨hready, -⟩ := execSend_cases p l s
  · rw [if_pos hab]
    exact heq
  · rw [if_neg hab]
    exact heq
  · exact absurd ((sendReady_iff s).1 hready).1 hterm

end Terminal

/-- Settles O16, by the instructions: every event that a terminal state could take begins with the test that it is
open. -/
theorem terminalStatesAbsorb : Obligations.TerminalStatesAbsorb := by
  intro i s hterm hreset
  cases i with
  | data h p | dataEnd h p | ack h p | rst h p | rstEnd h p | rstAck h p =>
    exact congrArg _ (receiveWith_of_not_opened hterm)
  | illegalAckEnd h p | illegalAckEndRst h p => exact congrArg _ (rejectIllegalFlags_of_not_opened hterm)
  | reset => exact absurd rfl hreset
  | send p l => simpa [isSend] using exec_send_of_not_opened p l hterm
  | rxRead chunk => exact readIsIgnoredWhenNotOpenOrEmpty chunk s (.inl hterm)
  | tick => exact exec_tick_of_not_opened hterm

/-! ## An intact frame on an open connection (R190)

It decodes to its own fields, and CLASSIFY goes on by the id and the type bits. -/

/-- What DECODE makes of an intact frame (R14, R122). -/
def frameOf (ty : FrameType) (h : Header) (p : Bytes) : Frame :=
  { checksum := h.checksum, length := h.length, id := h.id, flags := flagsByte ty h.reserved, payload := p }

/-- Without `R`, step 0 lets the two sequence bits through (R195). -/
theorem idRefused_of_seqBit {id : U16} (hseq : id = 0 ∨ id = 1) : idRefused id false = false :=
  idRefused_eq_false.2 (hseq.imp_right .inl)

theorem afterIdCheck_of_accepted {isRst : Bool} {k : Frame → State → State} {f : Frame}
    (hid : idRefused f.id isRst = false) : afterIdCheck isRst k f = k f := by
  funext s
  simp [afterIdCheck, hid]

theorem classify_of_idRefused {f : Frame} (hid : idRefused f.id (rstSet f.flags) = true) (s : State) :
    classify f s = s.emit (.log .illegalId) :=
  if_pos hid

section Intact
variable {ty : FrameType} {h : Header} {p : Bytes} {s : State}
  (hopen : s.conn = .opened) (hin : FrameIntact s.cfg.sync ty h p)
include hopen hin

theorem exec_ofFrame_of_intact : exec (.ofFrame ty h p) s = .next (classify (frameOf ty h p) s.clearCarry) := by
  rw [exec_ofFrame_eq_receiveCandidate, receiveCandidate, receiveWith_frameBytes hopen hin, frameOf]

/-- A type with `R` aborts, whatever its other bits (R92, R196). -/
theorem exec_ofFrame_of_rst (hrst : ty.bits.getLsbD 0 = true) (hid : idRefused h.id true = false) :
    exec (.ofFrame ty h p) s = .next (abortRst p s.clearCarry) := by
  rw [exec_ofFrame_of_intact hopen hin, classify_of_rst ((rstSet_flagsByte ty h.reserved).trans hrst),
    afterIdCheck_of_accepted hid, frameOf]

/-- A type with `A` and without `R` acknowledges (R197, R198). -/
theorem exec_ofFrame_of_ack (hrst : ty.bits.getLsbD 0 = false) (hack : ty.bits.getLsbD 2 = true)
    (hid : idRefused h.id false = false) :
    exec (.ofFrame ty h p) s = .next (ackCase (frameOf ty h p) s.clearCarry) := by
  rw [exec_ofFrame_of_intact hopen hin, classify_of_ack ((rstSet_flagsByte ty h.reserved).trans hrst)
    ((ackSet_flagsByte ty h.reserved).trans hack), afterIdCheck_of_accepted hid]

/-- A type without `R` and `A` is data, with its `E` bit (R199 to R201). -/
theorem exec_ofFrame_of_data (hrst : ty.bits.getLsbD 0 = false) (hack : ty.bits.getLsbD 2 = false)
    (hid : idRefused h.id false = false) :
    exec (.ofFrame ty h p) s = .next (dataCase (ty.bits.getLsbD 1) (frameOf ty h p) s.clearCarry) := by
  rw [exec_ofFrame_of_intact hopen hin, classify_of_data ((rstSet_flagsByte ty h.reserved).trans hrst)
    ((ackSet_flagsByte ty h.reserved).trans hack), afterIdCheck_of_accepted hid,
    ← endSet_flagsByte ty h.reserved, frameOf]

end Intact

/-! ## An illegal id (R195) -/

/-- Settles O46: step 0 comes before the case of any type. -/
theorem illegalIdIsDiscarded : Obligations.IllegalIdIsDiscarded := by
  intro ty h p s hopen hin h0 h1 hsentinel
  have hid : idRefused h.id (rstSet (flagsByte ty h.reserved)) = true := by
    refine Bool.eq_true_of_not_eq_false fun haccepted => ?_
    obtain hzero | hone | ⟨hmax, hrst⟩ := idRefused_eq_false.1 haccepted
    · exact h0 hzero
    · exact h1 hone
    · rw [rstSet_flagsByte] at hrst
      obtain rfl | rfl | rfl := hsentinel hmax <;> cases hrst
  rw [exec_ofFrame_of_intact hopen hin, classify_of_idRefused hid]
  rfl

/-! ## RST (R196) -/

/-- Settles O45: the three types have the `R` bit, and step 0 lets the sentinel through with it. -/
theorem receivedRstAborts : Obligations.ReceivedRstAborts := by
  intro h p s hopen hor t
  have hid : idRefused h.id true = false := idRefused_eq_false.2 (by simpa using hor)
  exact ⟨fun hin => exec_ofFrame_of_rst hopen hin rfl hid, fun hin => exec_ofFrame_of_rst hopen hin rfl hid,
    fun hin => exec_ofFrame_of_rst hopen hin rfl hid⟩

/-! ## Acknowledgments (R197, R198) -/

/-- Settles O43: what `ACK_MATCH` writes (R198, R206). -/
theorem matchingAckEndsTheSend : Obligations.MatchingAckEndsTheSend := by
  intro h s f hopen hin hpend hid
  rw [exec_ack_of_match hopen hin hpend hid, ackMatch_eq, endSet_eq_getLsbD, clearCarry_conn,
    hopen]
  rfl

/-- Settles O44: each of the two conditions excludes a match. -/
theorem staleAckIsIgnored : Obligations.StaleAckIsIgnored := by
  intro h s hopen hin hseq hstale
  refine (exec_ofFrame_of_ack hopen hin rfl rfl (idRefused_of_seqBit hseq)).trans ?_
  obtain ⟨g, hpend, hid, -⟩ | ⟨-, heq⟩ := ackCase_cases (frameOf .ack h []) s.clearCarry
  · obtain hnone | hne := hstale
    · exact nomatch hnone.symm.trans hpend
    · exact absurd hid hne
  · rw [heq]
    rfl

/-! ## Data frames (R199 to R201)

With and without `END` they differ in the flag that a new frame sets, and in nothing else. -/

section DataFrame
variable {isEnd : Bool} {h : Header} {p : Bytes} {s : State}

theorem isDuplicate_frameOf_iff {ty : FrameType} : isDuplicate (frameOf ty h p) s = true ↔ SameAsLast s h :=
  isDuplicate_iff _ _

/-- The id of a duplicate is that of a frame delivered before, a sequence bit. -/
theorem idRefused_of_sameAsLast (hsame : SameAsLast s h) : idRefused h.id false = false := by
  obtain ⟨d, -, hid, -⟩ := hsame
  rw [hid, idRefused_idOfBit]

/-- The recorded bit of a legal id is the whole id (R201). -/
theorem idOfBit_setWidth {id : U16} (hseq : id = 0 ∨ id = 1) : idOfBit (id.setWidth 1) = id := by
  obtain rfl | rfl := hseq <;> decide

variable (hopen : s.conn = .opened) (hin : FrameIntact s.cfg.sync (if isEnd then .dataEnd else .data) h p)
include hopen hin

theorem exec_data_of_intact (hid : idRefused h.id false = false) :
    exec (if isEnd then .dataEnd h p else .data h p) s =
      .next (dataCase isEnd (frameOf (if isEnd then .dataEnd else .data) h p) s.clearCarry) := by
  cases isEnd with
  | false => exact exec_ofFrame_of_data (ty := .data) hopen hin rfl rfl hid
  | true => exact exec_ofFrame_of_data (ty := .dataEnd) hopen hin rfl rfl hid

/-- A frame that is not the last delivered one is delivered (R201). -/
theorem exec_data_of_new (hseq : h.id = 0 ∨ h.id = 1) (hnew : ¬SameAsLast s h) :
    exec (if isEnd then .dataEnd h p else .data h p) s =
      .next (newData (frameOf (if isEnd then .dataEnd else .data) h p) isEnd s.clearCarry) := by
  rw [exec_data_of_intact hopen hin (idRefused_of_seqBit hseq)]
  obtain ⟨hdup, -⟩ | ⟨-, heq⟩ :=
      dataCase_cases isEnd (frameOf (if isEnd then .dataEnd else .data) h p) s.clearCarry
  · exact absurd (isDuplicate_frameOf_iff.1 hdup) hnew
  · rw [heq]

/-- A duplicate is acknowledged again (R200). -/
theorem exec_data_of_duplicate (hsame : SameAsLast s h) :
    exec (if isEnd then .dataEnd h p else .data h p) s =
      .next (reAck (frameOf (if isEnd then .dataEnd else .data) h p) s.clearCarry) := by
  rw [exec_data_of_intact hopen hin (idRefused_of_sameAsLast hsame)]
  obtain ⟨-, heq⟩ | ⟨hnew, -⟩ :=
      dataCase_cases isEnd (frameOf (if isEnd then .dataEnd else .data) h p) s.clearCarry
  · rw [heq]
  · exact absurd (isDuplicate_frameOf_iff.2 hsame) (Bool.eq_false_iff.1 hnew)

/-- Whether a data frame was new or a duplicate, it is then the last delivered one, and no bytes are kept. -/
theorem sameAsLast_of_exec_data {t : State} (hseq : h.id = 0 ∨ h.id = 1)
    (hexec : exec (if isEnd then .dataEnd h p else .data h p) s = .next t) :
    SameAsLast t h ∧ t.carry = [] ∧ t.cfg = s.cfg := by
  by_cases hsame : SameAsLast s h
  · cases (exec_data_of_duplicate hopen hin hsame).symm.trans hexec
    exact ⟨hsame, rfl, rfl⟩
  · cases (exec_data_of_new hopen hin hseq hsame).symm.trans hexec
    rw [newData_eq]
    exact ⟨⟨_, rfl, (idOfBit_setWidth hseq).symm, rfl⟩, rfl, rfl⟩

end DataFrame

/-- Settles O40: what `NEW_DATA` writes (R201, R206). -/
theorem newDataFrameIsDeliveredAndAcknowledged : Obligations.NewDataFrameIsDeliveredAndAcknowledged := by
  intro isEnd h p s hopen hin hseq hnew
  rw [exec_data_of_new hopen hin hseq hnew, newData_eq, clearCarry_conn, hopen]
  rfl

/-- Settles O41. -/
theorem duplicateDataFrameIsAcknowledgedAgain : Obligations.DuplicateDataFrameIsAcknowledgedAgain := by
  intro isEnd h p s hopen hin hsame
  rw [exec_data_of_duplicate hopen hin hsame, reAck_eq]
  rfl

/-- Settles O42: the first arrival leaves the frame recorded, so the second is a duplicate. -/
theorem deliveredFrameIsNotDeliveredAgain : Obligations.DeliveredFrameIsNotDeliveredAgain := by
  intro isEnd h p s t hopen hin hseq hexec hopen'
  obtain ⟨hsame, hcarry, hcfg⟩ := sameAsLast_of_exec_data hopen hin hseq hexec
  rw [← hcfg] at hin ⊢
  rw [exec_data_of_duplicate hopen' hin hsame, clearCarry_of_nil hcarry, reAck_eq]
  rfl

end Sys2Proof.Machine
end

section
/-! Proofs for the statements on 60_exceptions.md: a step answers a next state in each of its cases (R230, R248), what a
recoverable error leaves alone (R225), and the ways into `Aborted` (R230 to R233). -/

namespace Sys2Proof

/-! ## Frames and events -/

/-- A received frame shorter than a header is no instruction (R123). -/
theorem decode_frame_of_short {b : Bytes} (hlen : b.length < 15) : decode (.frame b) = .error .frameTooShort :=
  if_pos hlen

/-- An instruction is a frame of one of the types (R86) or one of the four port events (R95). -/
theorem Instr.frame_or_event {motive : Instr → Prop} (ofFrame : ∀ ty h p, motive (.ofFrame ty h p))
    (reset : motive .reset) (send : ∀ p l, motive (.send p l)) (rxRead : ∀ chunk, motive (.rxRead chunk))
    (tick : motive .tick) (i : Instr) : motive i := by
  cases i with
  | data h p => exact ofFrame .data h p
  | dataEnd h p => exact ofFrame .dataEnd h p
  | ack h p => exact ofFrame .ack h p
  | rst h p => exact ofFrame .rst h p
  | rstEnd h p => exact ofFrame .rstEnd h p
  | rstAck h p => exact ofFrame .rstAck h p
  | illegalAckEnd h p => exact ofFrame .illegalAckEnd h p
  | illegalAckEndRst h p => exact ofFrame .illegalAckEndRst h p
  | reset => exact reset
  | send p l => exact send p l
  | rxRead chunk => exact rxRead chunk
  | tick => exact tick

end Sys2Proof

namespace Sys2Proof.Machine

/-! ## A step always answers (R230, R248) -/

/-- Settles O5: a short frame is no instruction, and the reception that it is discarded by fails check (a). -/
theorem stepWithoutAnInstruction : Obligations.StepWithoutAnInstruction := by
  refine ⟨fun s hbox => step_of_inbox_nil hbox, fun s b rest hbox hlen hopen => ?_⟩
  rw [step_of_decode_error hbox (decode_frame_of_short hlen)]
  exact congrArg _ (receiveWith_of_decodeFrame_error (s := { s with inbox := rest }) hopen
    (decodeFrame_of_frameTooShort hlen))

/-- Every instruction's meaning is a next state (R230). -/
theorem exists_exec_eq_next (i : Instr) (s : State) : ∃ t, exec i s = .next t := by
  cases i using Instr.frame_or_event with
  | ofFrame ty h p => exact ⟨_, exec_ofFrame_eq_receiveCandidate h p s ty⟩
  | reset | send | rxRead | tick => exact ⟨_, rfl⟩

/-- Settles O6, by the cases of a step. -/
theorem everyStepHasANextState : Obligations.EveryStepHasANextState := by
  intro s
  cases hbox : s.inbox with
  | nil => exact ⟨s, step_of_inbox_nil hbox⟩
  | cons item rest =>
    cases hdec : decode item with
    | ok i =>
      rw [step_of_decode_ok hbox hdec]
      exact exists_exec_eq_next i _
    | error e => exact ⟨_, step_of_decode_error hbox hdec⟩

/-! ## Recoverable errors (R225)

The action lists of R209 show that the log is alone; what then happened is read off what an instruction can do. -/

/-- A recoverable error is logged alone. -/
theorem ActionShape.eq_of_log_mem {cfg : Cfg} {acts : List Action} {c : Code} (h : ActionShape cfg acts)
    (hc : .log c ∈ acts) (hrec : c.recoverable = true) : acts = [.log c] := by
  obtain rfl | rfl | rfl | rfl | ⟨f, rfl⟩ | ⟨c', rfl, -⟩ | ⟨p, bit, rfl⟩ | ⟨p, bit, rfl⟩ | ⟨bit, rfl⟩ | ⟨msg, rfl⟩ |
      rfl := h <;>
    simp at hc <;> subst hc
  · rfl
  · cases hrec

/-- A frame that is answered by one log is answered by nothing else. -/
theorem Received.eq_of_log_alone {s t : State} {c : Code} (h : Received s t) (hout : t.out = s.out ++ [.log c]) :
    t = s.emit (.log c) := by
  cases h with
  | logged c' =>
    obtain rfl : c' = c := by simpa using hout
    rfl
  | aborted msg => simp [abortRst] at hout
  | acked g => simp [ackMatch_out] at hout
  | duplicate f => simp [reAck_eq] at hout
  | delivered f isEnd => simp [newData_eq] at hout

/-- An instruction whose only action is one log writes nothing but `carry`. -/
theorem Effect.eq_of_log_alone {i : Instr} {s t : State} {c : Code} (h : Effect s i t)
    (hout : t.out = s.out ++ [.log c]) : t = { s with carry := t.carry, out := t.out } := by
  cases h with
  | received _ _ hrec =>
    cases hrec.eq_of_log_alone hout
    rfl
  | noMarker => rfl
  | reset | ignored | sendAborted | sent | countedDown | retransmitted | budgetSpent => simp at hout

/-- Settles O38, for RX_READ as for any other instruction. -/
theorem recoverableErrorsChangeOnlyCarry : Obligations.RecoverableErrorsChangeOnlyCarry := by
  intro chunk s t acts c hexec hout hmem hrec
  obtain ⟨acts', hout', hshape⟩ := actionsOfOneEventAreOrdered _ s t hexec
  obtain rfl : acts' = acts := List.append_cancel_left (hout'.symm.trans hout)
  obtain rfl := hshape.eq_of_log_mem hmem hrec
  exact ⟨rfl, (effect_of_exec hexec).eq_of_log_alone hout⟩

/-! ## The ways into `Aborted` (R230)

Of the operations that answer a received frame only `ABORT_RST` aborts, and CLASSIFY takes it only for a frame with the
`RST` bit and an id that step 0 lets through with it. -/

theorem ackCase_conn_ne_aborted {s : State} (hopen : s.conn = .opened) (f : Frame) :
    (ackCase f s).conn ≠ .aborted := by
  obtain ⟨g, -, -, heq⟩ | ⟨-, heq⟩ := ackCase_cases f s <;> rw [heq]
  · rw [ackMatch_eq]
    exact ite_closed_ne_aborted hopen _
  · simp [hopen]

theorem dataCase_conn_ne_aborted {s : State} (hopen : s.conn = .opened) (isEnd : Bool) (f : Frame) :
    (dataCase isEnd f s).conn ≠ .aborted := by
  obtain ⟨-, heq⟩ | ⟨-, heq⟩ := dataCase_cases isEnd f s <;> rw [heq]
  · simp [reAck_eq, hopen]
  · rw [newData_eq]
    exact ite_closed_ne_aborted hopen _

/-- CLASSIFY aborts an open connection only by `ABORT_RST` (R196). -/
theorem eq_abortRst_of_classify_aborted {f : Frame} {s : State} (hopen : s.conn = .opened)
    (hab : (classify f s).conn = .aborted) :
    rstSet f.flags = true ∧ (f.id = 0 ∨ f.id = 1 ∨ f.id = 0xFFFF) ∧ classify f s = abortRst f.payload s := by
  obtain ⟨-, heq⟩ | ⟨hid, hrst, heq⟩ | ⟨-, -, -, heq⟩ | ⟨-, -, -, heq⟩ := classify_cases f s
  · rw [heq] at hab
    exact nomatch hopen.symm.trans hab
  · exact ⟨hrst, by simpa [hrst] using idRefused_eq_false.1 hid, heq⟩
  · rw [heq] at hab
    exact absurd hab (ackCase_conn_ne_aborted hopen f)
  · rw [heq] at hab
    exact absurd hab (dataCase_conn_ne_aborted hopen _ f)

/-- A candidate that aborts the connection is a frame with the `RST` bit and a legal id (R196, R233). -/
theorem eq_abortRst_of_receiveCandidate_aborted {cand : Bytes} {s : State} (hs : s.conn ≠ .aborted)
    (hab : (receiveCandidate cand s).conn = .aborted) :
    s.conn = .opened ∧ ∃ f, decodeFrame s.cfg.sync cand = .ok f ∧ rstSet f.flags = true ∧
      (f.id = 0 ∨ f.id = 1 ∨ f.id = 0xFFFF) ∧ receiveCandidate cand s = abortRst f.payload s.clearCarry := by
  rw [receiveCandidate] at hab ⊢
  obtain ⟨-, heq⟩ | ⟨-, e, -, heq⟩ | ⟨hopen, f, hdec, heq⟩ := receiveWith_cases classify cand s <;> rw [heq] at hab ⊢
  · exact absurd hab hs
  · exact absurd hab hs
  · exact ⟨hopen, f, hdec, eq_abortRst_of_classify_aborted hopen hab⟩

/-- A frame whose bytes decode is intact, and decodes to its own fields (R122). -/
theorem frameIntact_of_decodeFrame {sync : U32} {ty : FrameType} {h : Header} {p : Bytes} {f : Frame}
    (hdec : decodeFrame sync (frameBytes ty h p) = .ok f) : FrameIntact sync ty h p ∧ f = frameOf ty h p := by
  obtain ⟨-, hmark, hlen, hflags, hsum, -⟩ := decodeFrame_ok hdec
  obtain ⟨hsync1, hsync2⟩ := frameBytes_marker_eq_iff.1 hmark
  rw [frameBytes_lengthField] at hlen hflags
  rw [frameBytes_flags] at hflags
  rw [frameBytes_checksum] at hsum
  have hin : FrameIntact sync ty h p := ⟨hsync1, hsync2, by simpa using hlen, hflags, hsum.symm⟩
  exact ⟨hin, Except.ok.inj (hdec.symm.trans (decodeFrame_frameBytes hin))⟩

/-- Of the four types with the `RST` bit, one never is intact (R91). -/
theorem FrameIntact.type_of_rstSet {sync : U32} {ty : FrameType} {h : Header} {p : Bytes}
    (hin : FrameIntact sync ty h p) (hrst : rstSet (flagsByte ty h.reserved) = true) :
    ty = .rst ∨ ty = .rstEnd ∨ ty = .rstAck := by
  obtain ⟨-, -, -, hflags, -⟩ := hin
  rw [rstSet_flagsByte] at hrst
  cases ty with
  | rst => exact .inl rfl
  | rstEnd => exact .inr (.inl rfl)
  | rstAck => exact .inr (.inr rfl)
  | illegalAckEndRst => exact nomatch hflags.symm.trans (flagsIllegal_of_illegalType (.inr rfl) _ _)
  | data | dataEnd | ack | illegalAckEnd => cases hrst

/-- Settles O15. A TICK aborts in its last case, and a candidate, whether a frame instruction or what RX_READ finds, only
as a frame with the `RST` bit. -/
theorem exactlyTwoWaysIntoAborted : Obligations.ExactlyTwoWaysIntoAborted := by
  intro i s t hexec hs hab
  cases i using Instr.frame_or_event with
  | ofFrame ty h p =>
    cases (exec_ofFrame_eq_receiveCandidate h p s ty).symm.trans hexec
    obtain ⟨hopen, f, hdec, hrst, hid, heq⟩ := eq_abortRst_of_receiveCandidate_aborted hs hab
    obtain ⟨hin, rfl⟩ := frameIntact_of_decodeFrame hdec
    exact .inr ⟨p, .inl ⟨ty, h, p, hin.type_of_rstSet hrst, rfl, hin, hid, rfl⟩, hopen, heq⟩
  | reset =>
    cases hexec
    cases hab
  | send p l =>
    obtain ⟨-, heq⟩ | ⟨-, -, heq⟩ | ⟨-, -, heq⟩ := execSend_cases p l s <;> cases heq.symm.trans hexec
    · exact absurd hab hs
    · exact absurd hab hs
    · exact absurd hab hs
  | rxRead chunk =>
    obtain ⟨-, heq⟩ | ⟨-, -, -, heq⟩ | ⟨-, hne, n, hscan, heq⟩ := execRxRead_cases chunk s <;>
      cases heq.symm.trans hexec
    · exact absurd hab hs
    · exact absurd hab hs
    · obtain ⟨hopen, f, hdec, hrst, hid, heq⟩ := eq_abortRst_of_receiveCandidate_aborted hs hab
      exact .inr ⟨f.payload, .inr ⟨chunk, n, f, rfl, hne, hscan, hdec, hrst, hid, rfl⟩, hopen, heq⟩
  | tick =>
    obtain ⟨-, heq⟩ | ⟨f, hopen, hpend, ⟨-, heq⟩ | ⟨-, -, heq⟩ | ⟨hone, hspent, heq⟩⟩ := execTick_cases s <;>
      cases heq.symm.trans hexec
    · exact absurd hab hs
    · exact absurd hab hs
    · exact absurd hab hs
    · exact .inl ⟨rfl, hopen, by simp [hpend], hone, hspent, rfl⟩

end Sys2Proof.Machine
end
